-- ==== Sys2Proof/Word.lean ====
section
/-! DEFINITION. The 32-bit word of BAQU-CORE's registers, operand fields and time input, and the three readings of a
word that spec/00_scope.md R9 names: `s32`, `u32`, and the pattern of an integer. -/

namespace Sys2Proof

/-- A 32-bit register, operand field or port value (R9, R20, R70). -/
abbrev Word := BitVec 32

/-- The 8-bit opcode field CMD_OP (R72). -/
abbrev Opcode := BitVec 8

/-- R9: a value marked `s32` is read in two's complement. A `q32` is an `s32` in units of 2^-16 degree (R10). -/
abbrev s32 (v : Word) : Int := v.toInt

/-- R9: a value marked `u32` is read unsigned. -/
abbrev u32 (v : Word) : Nat := v.toNat

/-- R77: the 32-bit two's-complement pattern of an integer. The rules narrow an integer by wrap32, sat32 or clamp
(R12) before it is written, so that the pattern loses nothing. -/
abbrev pattern32 (x : Int) : Word := BitVec.ofInt 32 x

end Sys2Proof
end

