-- ==== Sys2Proof/Syntax.lean ====
section
/-! DEFINITION. The command set of BAQU-CORE, version 1 (spec/30_encoding.md R72, R73): the command fields as the
ports carry them, and one constructor of `Instr` per row of spec/opcode_table.json, in the table's order. -/

namespace Sys2Proof

/-- The two session directions (R28): FWD selects OUT_FWD, REV selects OUT_REV. -/
inductive Direction
  | fwd
  | rev
  deriving DecidableEq, Repr

/-- R72: the one format of a command, its four fields presented in parallel. -/
structure CommandWord where
  op   : Opcode
  arg0 : Word
  arg1 : Word
  arg2 : Word
  deriving DecidableEq, Repr

/-- The 23 commands of R73 with the operands each of them reads. -/
inductive Instr
  | qdInit
  | qdUpdate
  | qdGetRaw
  | qdGetCount
  | qdReset
  | qdSetOffset (value : Word)
  | qdCountToAngle (count : Word)
  | qdAngleToCount (angle : Word)
  | qdGetAngle
  | pgInit
  | pgStart (dir : Direction) (pulseCount frequencyHz : Word)
  | pgStop
  | pgUpdate
  | pgGetState
  | pgGetCount
  | pcInit
  | pcSetTarget (angle : Word)
  | pcUpdate
  | pcGetTarget
  | pcGetCurrent
  | pcGetState
  | pcHoming
  | pcEstop
  deriving DecidableEq, Repr

end Sys2Proof
end

