-- ==== Sys2Proof/Decode.lean ====
section
/-! DEFINITION. The command decoder (spec/30_encoding.md R72 to R75), total on every command word and rejecting an
illegal opcode by name, and after it the encoder, written from the same table (R73, R79). -/

namespace Sys2Proof

/-- Why a command word is no command. -/
inductive Reject
  /-- R74: CMD_OP is not in the table of R73. -/
  | illegalOpcode (op : Opcode)
  deriving DecidableEq, Repr

/-- R72: the operand type `dir` reads bit 0 only, 0 = FWD and 1 = REV. -/
def Direction.ofArg (v : Word) : Direction :=
  if v.getLsbD 0 then .rev else .fwd

/-- R28, R79: the field an assembler writes for a direction. -/
def Direction.toArg : Direction → Word
  | .fwd => 0#32
  | .rev => 1#32

/-- R73: a command is selected by CMD_OP alone; R75: a field it does not read is ignored. -/
def decode (w : CommandWord) : Except Reject Instr :=
  match w.op with
  | 0x01#8 => .ok .qdInit
  | 0x02#8 => .ok .qdUpdate
  | 0x03#8 => .ok .qdGetRaw
  | 0x04#8 => .ok .qdGetCount
  | 0x05#8 => .ok .qdReset
  | 0x06#8 => .ok (.qdSetOffset w.arg0)
  | 0x07#8 => .ok (.qdCountToAngle w.arg0)
  | 0x08#8 => .ok (.qdAngleToCount w.arg0)
  | 0x09#8 => .ok .qdGetAngle
  | 0x10#8 => .ok .pgInit
  | 0x11#8 => .ok (.pgStart (Direction.ofArg w.arg0) w.arg1 w.arg2)
  | 0x12#8 => .ok .pgStop
  | 0x13#8 => .ok .pgUpdate
  | 0x14#8 => .ok .pgGetState
  | 0x15#8 => .ok .pgGetCount
  | 0x20#8 => .ok .pcInit
  | 0x21#8 => .ok (.pcSetTarget w.arg0)
  | 0x22#8 => .ok .pcUpdate
  | 0x23#8 => .ok .pcGetTarget
  | 0x24#8 => .ok .pcGetCurrent
  | 0x25#8 => .ok .pcGetState
  | 0x26#8 => .ok .pcHoming
  | 0x27#8 => .ok .pcEstop
  | op     => .error (.illegalOpcode op)

/-- The opcode column of R73. -/
def Instr.opcode : Instr → Opcode
  | .qdInit => 0x01#8
  | .qdUpdate => 0x02#8
  | .qdGetRaw => 0x03#8
  | .qdGetCount => 0x04#8
  | .qdReset => 0x05#8
  | .qdSetOffset _ => 0x06#8
  | .qdCountToAngle _ => 0x07#8
  | .qdAngleToCount _ => 0x08#8
  | .qdGetAngle => 0x09#8
  | .pgInit => 0x10#8
  | .pgStart _ _ _ => 0x11#8
  | .pgStop => 0x12#8
  | .pgUpdate => 0x13#8
  | .pgGetState => 0x14#8
  | .pgGetCount => 0x15#8
  | .pcInit => 0x20#8
  | .pcSetTarget _ => 0x21#8
  | .pcUpdate => 0x22#8
  | .pcGetTarget => 0x23#8
  | .pcGetCurrent => 0x24#8
  | .pcGetState => 0x25#8
  | .pcHoming => 0x26#8
  | .pcEstop => 0x27#8

/-- The word an assembler writes (R79): the operands of R73 in their fields, every other field 0. -/
def encode (i : Instr) : CommandWord :=
  match i with
  | .qdSetOffset value => ⟨i.opcode, value, 0#32, 0#32⟩
  | .qdCountToAngle count => ⟨i.opcode, count, 0#32, 0#32⟩
  | .qdAngleToCount angle => ⟨i.opcode, angle, 0#32, 0#32⟩
  | .pgStart dir n f => ⟨i.opcode, dir.toArg, n, f⟩
  | .pcSetTarget angle => ⟨i.opcode, angle, 0#32, 0#32⟩
  | .qdInit | .qdUpdate | .qdGetRaw | .qdGetCount | .qdReset | .qdGetAngle
  | .pgInit | .pgStop | .pgUpdate | .pgGetState | .pgGetCount
  | .pcInit | .pcUpdate | .pcGetTarget | .pcGetCurrent | .pcGetState | .pcHoming | .pcEstop =>
      ⟨i.opcode, 0#32, 0#32, 0#32⟩

/-- The command whose bits are w, numbered as spec/opcode_table.json numbers them: CMD_OP in bits 7 to 0. The table
gives the operand fields no bits. This model counts on from there: CMD_ARG0 in bits 39 to 8, CMD_ARG1 in bits 71 to
40, CMD_ARG2 in bits 103 to 72 (DESIGN CHOICE, safe: log 9). Every bit from nbits on is 0. -/
def CommandWord.ofTable (nbits w : Nat) : CommandWord :=
  let v := w % 2 ^ nbits
  { op := BitVec.ofNat 8 v
    arg0 := BitVec.ofNat 32 (v / 2 ^ 8)
    arg1 := BitVec.ofNat 32 (v / 2 ^ 40)
    arg2 := BitVec.ofNat 32 (v / 2 ^ 72) }

/-- The command the decoder reads from a table word, none where it rejects. -/
def decodeTableWord (nbits w : Nat) : Option Instr :=
  match decode (CommandWord.ofTable nbits w) with
  | .ok i => some i
  | .error _ => none

end Sys2Proof
end

