-- ==== Sys2Proof/Config.lean ====
section
/-! DEFINITION. What is fixed for one instance of BAQU-CORE (spec/00_scope.md R7, R8; spec/10_state.md R40) and the
free values of the model: the OPEN build parameters and the draws of the input ports. Every `opaque` constant below
has no body, so nothing proved can rest on a value of it. -/

namespace Sys2Proof

/-- The OPEN build parameters of R7 with the constraints of R8: encoder counts per revolution, MAX_STEERING_ANGLE and
ANGLE_TOLERANCE as Q16.16 angles. R8: a configuration that breaks a constraint is not a BAQU-CORE configuration, so
none can be written down. -/
structure Params where
  ppr       : Nat
  maxAngleQ : Nat
  tolQ      : Nat
  ok        : (1 ≤ ppr ∧ ppr ≤ 2147483647) ∧ maxAngleQ ≤ 2147483647 ∧ tolQ ≤ 2147483647
  deriving DecidableEq, Repr

namespace Config

/-- FRAC: fraction bits of an angle (R7, R10). -/
def frac : Nat := 16

/-- K_ANGLE = 360 * 2^FRAC (R7). -/
def kAngle : Int := 23592960

/-- PULSE_FREQ_HZ: the controller's pulse frequency (R7, D27; C10: a build parameter, no command sets it; log 12). -/
def pulseFreqHz : Nat := 100000

/-- MIN_BURST: minimum pulses per controller burst (R7, D27; log 12). -/
def minBurst : Int := 10

/-- MAX_BURST: maximum pulses per controller burst (R7, D27; log 12). -/
def maxBurst : Int := 1000

/-! The OPEN parameters of R7 (D26), each free in exactly the range of R8 (DESIGN CHOICE, safe: log 3). -/

/-- PPR - 1. -/
opaque openPprPred : Fin 2147483647
/-- MAX_ANGLE_Q. -/
opaque openMaxAngleQ : Fin 2147483648
/-- TOL_Q. -/
opaque openTolQ : Fin 2147483648

/-- The build parameters of the instance that State.reset describes: any that R8 allows. -/
def params : Params where
  ppr := openPprPred.val + 1
  maxAngleQ := openMaxAngleQ.val
  tolQ := openTolQ.val
  ok := by
    have h1 := openPprPred.isLt
    have h2 := openMaxAngleQ.isLt
    have h3 := openTolQ.isLt
    omega

/-! The input ports at an edge that is not in `State.pending`: free draws (R42, R63: "A model takes (A, B, now) as a
free draw per command"), applied to the counter `State.drawIndex` (DESIGN CHOICE, safe: log 1). Draw 0 is the reset
edge that State.reset describes. -/

/-- RST at draw n. -/
opaque drawnRst : Nat → Bool
/-- CMD_OP at draw n. -/
opaque drawnOp : Nat → Opcode
/-- CMD_ARG0 at draw n. -/
opaque drawnArg0 : Nat → Word
/-- CMD_ARG1 at draw n. -/
opaque drawnArg1 : Nat → Word
/-- CMD_ARG2 at draw n. -/
opaque drawnArg2 : Nat → Word
/-- PHASE_A at draw n. -/
opaque drawnPhaseA : Nat → Bool
/-- PHASE_B at draw n. -/
opaque drawnPhaseB : Nat → Bool
/-- TIME_US at draw n. -/
opaque drawnTimeUs : Nat → Word

end Config
end Sys2Proof
end

