-- ==== Sys2Proof/Machine/Arith.lean ====
section
/-! DEFINITION. The arithmetic primitives of spec/00_scope.md R12, on unbounded integers, and the concatenation {A, B}
of the two phase levels (R9). A value is narrowed to a register's width only by the functions named here. -/

namespace Sys2Proof.Machine

/-- R12: the unique y in [-2^31, 2^31 - 1] congruent to x modulo 2^32. -/
def wrap32 (x : Int) : Int :=
  (x + 2147483648) % 4294967296 - 2147483648

/-- R12: x mod 2^32, in [0, 2^32 - 1]. -/
def wrapu32 (x : Int) : Int :=
  x % 4294967296

/-- R12: saturation to [-2^31, 2^31 - 1]. -/
def sat32 (x : Int) : Int :=
  if x < -2147483648 then -2147483648
  else if x > 2147483647 then 2147483647
  else x

/-- R12: clamp(x, lo, hi), used only with lo <= hi. -/
def clamp (x lo hi : Int) : Int :=
  if x < lo then lo else if x > hi then hi else x

/-- R12: abs(x), exact. -/
def absInt (x : Int) : Int :=
  if x ≥ 0 then x else -x

/-- R12: floordiv(x, y) for x >= 0 and y > 0. -/
def floordiv (x y : Int) : Int :=
  x / y

/-- R12: tdiv(x, y) for y > 0, the quotient rounded toward zero. -/
def tdiv (x y : Int) : Int :=
  if x ≥ 0 then floordiv x y else -floordiv (-x) y

/-- R9: the 2-bit phase state {A, B}, line A in the high bit. -/
def phaseState (a b : Bool) : BitVec 2 :=
  BitVec.ofBool a ++ BitVec.ofBool b

end Sys2Proof.Machine
end

