-- ==== Sys2Proof/Machine/State.lean ====
section
/-! DEFINITION. The state of BAQU-CORE: the fourteen registers of spec/10_state.md R20, the two registered response
ports of spec/30_encoding.md R70, and the model's own fields for the build parameters and the input ports. Plain data.
A level or a one-bit port is a Bool, true = 1 = high (R9; log 6). -/

namespace Sys2Proof.Machine

/-- The generator states (R27). The code 3 of the 2-bit register is never written, and no term stands for it (log 6). -/
inductive PgState
  | idle
  | running
  | complete
  deriving DecidableEq, Repr

/-- The controller states (R35). -/
inductive PcState
  | idle
  | moving
  | arrived
  | error
  deriving DecidableEq, Repr

/-- One sample of the inputs (R63): the phase levels A and B and the time `now`. -/
structure Sample where
  phaseA : Bool
  phaseB : Bool
  timeUs : Word
  deriving DecidableEq, Repr

/-- The input ports at one rising edge of CLK (R70). -/
structure Edge where
  rst      : Bool
  cmdValid : Bool
  cmd      : CommandWord
  sample   : Sample
  deriving DecidableEq, Repr

/-- Why a step could stop with a fault: never. R200: BAQU-CORE raises no exception and takes no trap, and
spec/93_implementation_defined.md says of `fault` that BAQU-CORE has no such case (log 13). -/
inductive Fault
  deriving DecidableEq, Repr

/-- Why an instruction could be refused. -/
inductive Refusal
  /-- Raised by an arm of exec whose instruction has no meaning yet. Safe: the model stops. No arm of this model does. -/
  | notModelled (mnemonic : String)
  deriving DecidableEq, Repr

/-- The state of one instance: R20's fourteen registers, the response ports, and the model's own fields. -/
@[ext]
structure State where
  /-- QD_PREV (R23): the phase state sampled by the last QD_INIT, QD_UPDATE or reset. -/
  qdPrev : BitVec 2
  /-- QD_RAW (R24): s32 raw position count. -/
  qdRaw : Word
  /-- QD_OFFSET (R25): s32 zero reference. -/
  qdOffset : Word
  /-- PG_STATE (R27). -/
  pgState : PgState
  /-- PG_DIR (R28). -/
  pgDir : Direction
  /-- PG_EMITTED (R29): u32 full pulses emitted in the current or last session. -/
  pgEmitted : Word
  /-- PG_REQUESTED (R30): u32 pulses requested. -/
  pgRequested : Word
  /-- PG_INTERVAL (R31): u32 half-cycle interval in microseconds. -/
  pgInterval : Word
  /-- PG_LEVEL (R32): the output-level flag. -/
  pgLevel : Bool
  /-- PG_LAST_T (R33): u32 time of the session's start or last transition. -/
  pgLastT : Word
  /-- OUT_FWD (R34). -/
  outFwd : Bool
  /-- OUT_REV (R34). -/
  outRev : Bool
  /-- PC_STATE (R35). -/
  pcState : PcState
  /-- PC_TARGET (R36): q32 target angle. -/
  pcTarget : Word
  /-- RSP_STATUS (R70, R76): true = 1 = illegal opcode. A registered output port, not architectural state (log 5). -/
  rspStatus : Bool
  /-- RSP_DATA (R70, R77). A registered output port, not architectural state (log 5). -/
  rspData : Word
  /-- The model's own: the build parameters of this instance (R7, R40; log 3). No command writes them. -/
  params : Params
  /-- The model's own: the inputs sampled at the edge being executed (R63). -/
  sample : Sample
  /-- The model's own: the input ports at the coming edges that are already known, first edge first (log 1). -/
  pending : List Edge
  /-- The model's own: which free draw of the input ports comes when `pending` is exhausted (log 1). -/
  drawIndex : Nat
  deriving DecidableEq, Repr

/-- The machine right after one reset edge (R43, R220). QD_PREV takes the phase inputs as sampled at that edge: the
free draw 0 (log 4). Nothing is pending, and draw 1 comes next (DESIGN CHOICE: log 1, log 4, log 11). -/
def State.reset : State where
  qdPrev := phaseState (Config.drawnPhaseA 0) (Config.drawnPhaseB 0)
  qdRaw := 0#32
  qdOffset := 0#32
  pgState := .idle
  pgDir := .fwd
  pgEmitted := 0#32
  pgRequested := 0#32
  pgInterval := 1#32
  pgLevel := false
  pgLastT := 0#32
  outFwd := false
  outRev := false
  pcState := .idle
  pcTarget := 0#32
  rspStatus := false
  rspData := 0#32
  params := Config.params
  sample := ⟨Config.drawnPhaseA 0, Config.drawnPhaseB 0, Config.drawnTimeUs 0⟩
  pending := []
  drawIndex := 1

end Sys2Proof.Machine
end

