-- ==== Sys2Proof/Machine/Flags.lean ====
section
/-! DEFINITION. BAQU-CORE has no flag register (spec/10_state.md R37). Its status is the state encodings PG_STATE and
PC_STATE, read out by commands, and the per-command RSP_STATUS: their numeric codes and the two ways a command ends
(spec/00_scope.md R11, spec/30_encoding.md R74, R76). -/

namespace Sys2Proof.Machine

/-- R27: IDLE 0, RUNNING 1, COMPLETE 2. -/
def PgState.code : PgState → BitVec 2
  | .idle => 0#2
  | .running => 1#2
  | .complete => 2#2

/-- R35: IDLE 0, MOVING 1, ARRIVED 2, ERROR 3. -/
def PcState.code : PcState → BitVec 2
  | .idle => 0#2
  | .moving => 1#2
  | .arrived => 2#2
  | .error => 3#2

/-- R11: zext_32 of a 2-bit code. -/
def zext32 (c : BitVec 2) : Word := c.setWidth 32

/-- R11, R76: rsp(d) ends a legal command with RSP_STATUS = 0 and RSP_DATA = d. -/
def State.respond (s : State) (d : Word) : State :=
  { s with rspStatus := false, rspData := d }

/-- R74: an illegal opcode changes no register and no output and ends with RSP_STATUS = 1 and RSP_DATA = 0. This is the
one error indication of the block. It is no trap (R200): BAQU-CORE has no exception entry and no return from one. -/
def State.respondIllegal (s : State) : State :=
  { s with rspStatus := true, rspData := 0#32 }

end Sys2Proof.Machine
end

