-- ==== Sys2Proof/Machine/Operands.lean ====
section
/-! DEFINITION. The operand forms: the typed readings of an operand field (spec/30_encoding.md R72; `dir` is read by the
decoder) and the sampled inputs A, B and now that a command rule names (spec/00_scope.md R11, spec/20_memory.md R63). -/

namespace Sys2Proof.Machine

/-- R72: an `s32` operand, the full 32 bits in two's complement. -/
def operandS32 (v : Word) : Int := s32 v

/-- R72: a `u32` operand, the full 32 bits unsigned. -/
def operandU32 (v : Word) : Nat := u32 v

/-- R72, R10: a `q32` operand, an s32 in units of 2^-16 degree. -/
def operandQ32 (v : Word) : Int := s32 v

/-- The phase state {A, B} of the command's sample (R11, R63). -/
def State.phaseNow (s : State) : BitVec 2 :=
  phaseState s.sample.phaseA s.sample.phaseB

/-- `now`: TIME_US of the command's sample (R11, R63). -/
def State.now (s : State) : Word := s.sample.timeUs

end Sys2Proof.Machine
end

