-- ==== Sys2Proof/Machine/Ops.lean ====
section
/-! DEFINITION. The named operations the commands share, one per helper rule of the spec: the LUT ROM and the decoder's
helpers, the generator's actions, the controller's functions, and reset. BAQU-CORE has no exceptions to take and none
to return from (spec/60_exceptions.md R200, R205). -/

namespace Sys2Proof.Machine

/-! ### Decoder -/

/-- R51: the 16 entries of the LUT ROM, index 0 first. Which valid step is +1 is the spec's choice (D19, G1: PRESUMED
by the spec from general knowledge, log 8); the zeros are the source's. -/
def lutRom : List Int := [0, -1, 1, 0, 1, 0, 0, -1, -1, 0, 0, 1, 0, 1, -1, 0]

/-- LUT[i], the only memory read of the block (R50, R51). -/
def lut (i : BitVec 4) : Int := lutRom.getD i.toNat 0

/-- R100: the signed increment of one decode step; index bits 3:2 = prev, 1:0 = {A, B} (C1). -/
def qdDelta (prev : BitVec 2) (a b : Bool) : Int := lut (prev ++ phaseState a b)

/-- R26: the logical count, wrap32(QD_RAW - QD_OFFSET). -/
def State.qdLogical (s : State) : Int := wrap32 (s32 s.qdRaw - s32 s.qdOffset)

/-- R101: count to angle, exact product, truncation toward zero, saturation. -/
def c2a (p : Params) (c : Int) : Int := sat32 (tdiv (c * Config.kAngle) p.ppr)

/-- R102: exact angle to count, truncation toward zero. -/
def a2cExact (p : Params) (x : Int) : Int := tdiv (x * p.ppr) Config.kAngle

/-- R102: the saturated form of a2c_exact. -/
def a2c (p : Params) (a : Int) : Int := sat32 (a2cExact p a)

/-- R109, R171: the decoder's reset() action, QD_OFFSET <- QD_RAW. -/
def State.qdZeroHere (s : State) : State := { s with qdOffset := s.qdRaw }

/-! ### Generator -/

/-- R130: the half-cycle interval in microseconds of a frequency in hertz. -/
def pgIntervalOf (f : Nat) : Nat :=
  if f = 0 then 1 else max 1 (1000000 / (2 * f))

/-- R131: the stop action. -/
def State.pgStop (s : State) : State :=
  { s with outFwd := false, outRev := false, pgLevel := false, pgState := .idle }

/-- R132: the start action; n pulses at f hertz, a zero-length request complete at once (D15, C2). -/
def State.pgStart (s : State) (dir : Direction) (n : Word) (f : Nat) (now : Word) : State :=
  { s.pgStop with
    pgInterval := BitVec.ofNat 32 (pgIntervalOf f)
    pgEmitted := 0#32
    pgRequested := n
    pgDir := dir
    pgState := if n = 0#32 then .complete else .running
    pgLastT := now
    pgLevel := false }

/-- R133: drive(PG_DIR, v). -/
def State.drive (s : State) (v : Bool) : State :=
  match s.pgDir with
  | .fwd => { s with outFwd := v }
  | .rev => { s with outRev := v }

/-- R133, R208: microseconds since PG_LAST_T, modulo 2^32. -/
def State.elapsed (s : State) (now : Word) : Int :=
  wrapu32 ((u32 now : Int) - (u32 s.pgLastT : Int))

/-- R133, low to high. -/
def State.pgRise (s : State) (now : Word) : State :=
  { s.drive true with pgLevel := true, pgLastT := now }

/-- R133, high to low: a full pulse ends. The increment cannot pass 2^32 - 1 by invariant I5 (R38); outside that
invariant this model wraps (DESIGN CHOICE, log 7). -/
def State.pgFall (s : State) (now : Word) : State :=
  let t := { s.drive false with pgLevel := false, pgEmitted := s.pgEmitted + 1#32, pgLastT := now }
  if u32 t.pgEmitted ≥ u32 t.pgRequested then { t.pgStop with pgState := .complete } else t

/-- R133: the polling step, at most one transition. -/
def State.pgUpdate (s : State) (now : Word) : State :=
  if s.pgState ≠ .running then s
  else if s.elapsed now < (u32 s.pgInterval : Int) then s
  else if s.pgLevel then s.pgFall now
  else s.pgRise now

/-! ### Controller -/

/-- R160: the current angle. -/
def State.pcCurrent (s : State) : Int := c2a s.params s.qdLogical

/-- R160: the exact signed error. -/
def State.pcError (s : State) : Int := s32 s.pcTarget - s.pcCurrent

/-- R161: strict comparison with the tolerance. -/
def pcInTol (p : Params) (e : Int) : Bool := decide (absInt e < (p.tolQ : Int))

/-- R162: FWD if the error is positive, REV otherwise. -/
def pcDir (e : Int) : Direction := if e > 0 then .fwd else .rev

/-- R163: the burst length in pulses. -/
def pcBurst (p : Params) (e : Int) : Int :=
  clamp (a2cExact p (absInt e)) Config.minBurst Config.maxBurst

/-! ### Reset -/

/-- R220, R43: every register to its reset value, QD_PREV to the phase inputs sampled at the reset edge, both response
ports to 0. -/
def State.resetRegs (s : State) : State :=
  { s with
    qdPrev := s.phaseNow
    qdRaw := 0#32
    qdOffset := 0#32
    pgState := .idle
    pgDir := .fwd
    pgEmitted := 0#32
    pgRequested := 0#32
    pgInterval := 1#32
    pgLevel := false
    pgLastT := 0#32
    outFwd := false
    outRev := false
    pcState := .idle
    pcTarget := 0#32
    rspStatus := false
    rspData := 0#32 }

end Sys2Proof.Machine
end

