-- ==== Sys2Proof/Machine/Decoder.lean ====
section
/-! DEFINITION. The nine commands of the Quadrature Decoder (spec/40_decoder.md R105 to R113). -/

namespace Sys2Proof.Machine

/-- R105 QD_INIT: seed QD_PREV from the phase inputs, clear count and offset. -/
def execQdInit (s : State) : Host.Outcome State Fault Refusal :=
  .next ({ s with qdPrev := s.phaseNow, qdRaw := 0#32, qdOffset := 0#32 }.respond 0#32)

/-- R106 QD_UPDATE: one decode step. An impossible double-bit change adds 0 (R201). -/
def execQdUpdate (s : State) : Host.Outcome State Fault Refusal :=
  let d := qdDelta s.qdPrev s.sample.phaseA s.sample.phaseB
  .next ({ s with qdRaw := pattern32 (wrap32 (s32 s.qdRaw + d)), qdPrev := s.phaseNow }.respond 0#32)

/-- R107 QD_GET_RAW. -/
def execQdGetRaw (s : State) : Host.Outcome State Fault Refusal :=
  .next (s.respond s.qdRaw)

/-- R108 QD_GET_COUNT. -/
def execQdGetCount (s : State) : Host.Outcome State Fault Refusal :=
  .next (s.respond (pattern32 s.qdLogical))

/-- R109 QD_RESET: the current position becomes the zero reference. -/
def execQdReset (s : State) : Host.Outcome State Fault Refusal :=
  .next (s.qdZeroHere.respond 0#32)

/-- R110 QD_SET_OFFSET. -/
def execQdSetOffset (value : Word) (s : State) : Host.Outcome State Fault Refusal :=
  .next ({ s with qdOffset := pattern32 (operandS32 value) }.respond 0#32)

/-- R111 QD_COUNT_TO_ANGLE. -/
def execQdCountToAngle (count : Word) (s : State) : Host.Outcome State Fault Refusal :=
  .next (s.respond (pattern32 (c2a s.params (operandS32 count))))

/-- R112 QD_ANGLE_TO_COUNT. -/
def execQdAngleToCount (angle : Word) (s : State) : Host.Outcome State Fault Refusal :=
  .next (s.respond (pattern32 (a2c s.params (operandQ32 angle))))

/-- R113 QD_GET_ANGLE. -/
def execQdGetAngle (s : State) : Host.Outcome State Fault Refusal :=
  .next (s.respond (pattern32 (c2a s.params s.qdLogical)))

end Sys2Proof.Machine
end

