-- ==== Sys2Proof/Machine/PositionController.lean ====
section
/-! DEFINITION. The eight commands of the Position Controller (spec/42_position_controller.md R165 to R172). Its
collaborators are the block's own decoder and generator (D1). -/

namespace Sys2Proof.Machine

/-- R165 PC_INIT: the generator and the decoder are not touched. -/
def execPcInit (s : State) : Host.Outcome State Fault Refusal :=
  .next ({ s with pcTarget := 0#32, pcState := .idle }.respond 0#32)

/-- R166 PC_SET_TARGET: clamp, store, and move, from any state. -/
def execPcSetTarget (angle : Word) (s : State) : Host.Outcome State Fault Refusal :=
  .next ({ s with
    pcTarget := pattern32 (clamp (operandQ32 angle) (-(s.params.maxAngleQ : Int)) s.params.maxAngleQ)
    pcState := .moving }.respond 0#32)

/-- R167 PC_UPDATE: nothing unless MOVING; else poll the generator, then the tolerance check first, then wait for a
running burst, then issue a burst. One sample of `now` serves the whole command (R63). -/
def execPcUpdate (s : State) : Host.Outcome State Fault Refusal :=
  if s.pcState ≠ .moving then .next (s.respond 0#32)
  else
    let s1 := s.pgUpdate s.now
    let e := s1.pcError
    if pcInTol s1.params e then .next ({ s1.pgStop with pcState := .arrived }.respond 0#32)
    else if s1.pgState = .running then .next (s1.respond 0#32)
    else
      .next ((s1.pgStart (pcDir e) (pattern32 (pcBurst s1.params e)) Config.pulseFreqHz s.now).respond 0#32)

/-- R168 PC_GET_TARGET. -/
def execPcGetTarget (s : State) : Host.Outcome State Fault Refusal :=
  .next (s.respond s.pcTarget)

/-- R169 PC_GET_CURRENT. -/
def execPcGetCurrent (s : State) : Host.Outcome State Fault Refusal :=
  .next (s.respond (pattern32 s.pcCurrent))

/-- R170 PC_GET_STATE. -/
def execPcGetState (s : State) : Host.Outcome State Fault Refusal :=
  .next (s.respond (zext32 s.pcState.code))

/-- R171 PC_HOMING: stop the generator, make the present count the zero reference, target 0, IDLE. -/
def execPcHoming (s : State) : Host.Outcome State Fault Refusal :=
  .next ({ s.pgStop.qdZeroHere with pcTarget := 0#32, pcState := .idle }.respond 0#32)

/-- R172 PC_ESTOP: stop the generator and enter ERROR, from any state. ERROR is a state, not a trap (R200). -/
def execPcEstop (s : State) : Host.Outcome State Fault Refusal :=
  .next ({ s.pgStop with pcState := .error }.respond 0#32)

end Sys2Proof.Machine
end

