-- ==== Sys2Proof/Machine/PulseGenerator.lean ====
section
/-! DEFINITION. The six commands of the Pulse Generator (spec/41_pulse_generator.md R135 to R140). -/

namespace Sys2Proof.Machine

/-- R135 PG_INIT: every generator register and both outputs to their reset values (D18). -/
def execPgInit (s : State) : Host.Outcome State Fault Refusal :=
  .next ({ s with
    outFwd := false
    outRev := false
    pgLevel := false
    pgState := .idle
    pgDir := .fwd
    pgEmitted := 0#32
    pgRequested := 0#32
    pgInterval := 1#32
    pgLastT := 0#32 }.respond 0#32)

/-- R136 PG_START. -/
def execPgStart (dir : Direction) (pulseCount frequencyHz : Word) (s : State) :
    Host.Outcome State Fault Refusal :=
  .next ((s.pgStart dir pulseCount (operandU32 frequencyHz) s.now).respond 0#32)

/-- R137 PG_STOP. -/
def execPgStop (s : State) : Host.Outcome State Fault Refusal :=
  .next (s.pgStop.respond 0#32)

/-- R138 PG_UPDATE: one polling step. -/
def execPgUpdate (s : State) : Host.Outcome State Fault Refusal :=
  .next ((s.pgUpdate s.now).respond 0#32)

/-- R139 PG_GET_STATE. -/
def execPgGetState (s : State) : Host.Outcome State Fault Refusal :=
  .next (s.respond (zext32 s.pgState.code))

/-- R140 PG_GET_COUNT. -/
def execPgGetCount (s : State) : Host.Outcome State Fault Refusal :=
  .next (s.respond s.pgEmitted)

end Sys2Proof.Machine
end

