-- ==== Sys2Proof/Machine/Dispatch.lean ====
section
/-! DEFINITION. exec: one arm per command, each one call of the command's own meaning. -/

namespace Sys2Proof.Machine

def exec (i : Instr) (s : State) : Host.Outcome State Fault Refusal :=
  match i with
  -- Quadrature Decoder (spec/40_decoder.md)
  | .qdInit => Sys2Proof.Machine.execQdInit s
  | .qdUpdate => Sys2Proof.Machine.execQdUpdate s
  | .qdGetRaw => Sys2Proof.Machine.execQdGetRaw s
  | .qdGetCount => Sys2Proof.Machine.execQdGetCount s
  | .qdReset => Sys2Proof.Machine.execQdReset s
  | .qdSetOffset value => Sys2Proof.Machine.execQdSetOffset value s
  | .qdCountToAngle count => Sys2Proof.Machine.execQdCountToAngle count s
  | .qdAngleToCount angle => Sys2Proof.Machine.execQdAngleToCount angle s
  | .qdGetAngle => Sys2Proof.Machine.execQdGetAngle s
  -- Pulse Generator (spec/41_pulse_generator.md)
  | .pgInit => Sys2Proof.Machine.execPgInit s
  | .pgStart dir pulseCount frequencyHz => Sys2Proof.Machine.execPgStart dir pulseCount frequencyHz s
  | .pgStop => Sys2Proof.Machine.execPgStop s
  | .pgUpdate => Sys2Proof.Machine.execPgUpdate s
  | .pgGetState => Sys2Proof.Machine.execPgGetState s
  | .pgGetCount => Sys2Proof.Machine.execPgGetCount s
  -- Position Controller (spec/42_position_controller.md)
  | .pcInit => Sys2Proof.Machine.execPcInit s
  | .pcSetTarget angle => Sys2Proof.Machine.execPcSetTarget angle s
  | .pcUpdate => Sys2Proof.Machine.execPcUpdate s
  | .pcGetTarget => Sys2Proof.Machine.execPcGetTarget s
  | .pcGetCurrent => Sys2Proof.Machine.execPcGetCurrent s
  | .pcGetState => Sys2Proof.Machine.execPcGetState s
  | .pcHoming => Sys2Proof.Machine.execPcHoming s
  | .pcEstop => Sys2Proof.Machine.execPcEstop s

end Sys2Proof.Machine
end

