-- ==== Sys2Proof/Machine/Fetch.lean ====
section
/-! DEFINITION. Which clock edge comes next. BAQU-CORE fetches no instructions (spec/10_state.md R22): the host presents
commands on the ports. The model takes the edges that are already known (`State.pending`) first, and free draws of the
input ports after them (spec/20_memory.md R63; log 1). -/

namespace Sys2Proof.Machine

/-- An edge at which something happens: RST = 1, or a command is accepted (R71, R220). -/
def Edge.active (e : Edge) : Bool := e.rst || e.cmdValid

/-- R71: "Idle edges are not steps": the first active edge and what follows it, passing over idle edges (log 2). -/
def firstActive : List Edge → Option (Edge × List Edge)
  | [] => none
  | e :: es => if e.active then some (e, es) else firstActive es

/-- The free draw n of the input ports (R42, R63). It presents a command or a reset, since an idle edge is no step
(log 2). -/
def drawnEdge (n : Nat) : Edge where
  rst := Config.drawnRst n
  cmdValid := true
  cmd := ⟨Config.drawnOp n, Config.drawnArg0 n, Config.drawnArg1 n, Config.drawnArg2 n⟩
  sample := ⟨Config.drawnPhaseA n, Config.drawnPhaseB n, Config.drawnTimeUs n⟩

/-- The next active edge, and the state with that edge taken from the ports. No register changes. -/
def State.takeEdge (s : State) : Edge × State :=
  match firstActive s.pending with
  | some (e, rest) => (e, { s with pending := rest })
  | none => (drawnEdge s.drawIndex, { s with pending := [], drawIndex := s.drawIndex + 1 })

/-- R63: each input is sampled once, at the edge. -/
def State.latch (s : State) (x : Sample) : State := { s with sample := x }

/-- The edge at which the command word w is presented, with the given inputs (R71). -/
def commandEdge (w : CommandWord) (x : Sample) : Edge where
  rst := false
  cmdValid := true
  cmd := w
  sample := x

end Sys2Proof.Machine
end

