-- ==== Sys2Proof/Machine/ClockEdge.lean ====
section
/-! DEFINITION. What one rising edge of CLK does (spec/30_encoding.md R71, spec/70_reset_and_hazards.md R220, R221). -/

namespace Sys2Proof.Machine

/-- R71: the accepted command is executed whole; R74: an illegal opcode has no effect but its response. -/
def runCommand (w : CommandWord) (s : State) : Host.Outcome State Fault Refusal :=
  match decode w with
  | .ok i => exec i s
  | .error _ => .next s.respondIllegal

/-- One rising edge with the input ports e. R220, R221: reset wins over a command; R71: at an edge with no command
nothing changes. -/
def clockEdge (e : Edge) (s : State) : Host.Outcome State Fault Refusal :=
  if e.rst then .next (s.latch e.sample).resetRegs
  else if e.cmdValid then runCommand e.cmd (s.latch e.sample)
  else .next s

end Sys2Proof.Machine
end

