-- ==== Sys2Proof/Machine/Step.lean ====
section
/-! DEFINITION. One step: the next edge that accepts a command or resets the block (spec/30_encoding.md R71: "For a
model, one step is one accepted command"). -/

namespace Sys2Proof.Machine

/-- Take the next active edge from the ports and do what it does. -/
def step (s : State) : Host.Outcome State Fault Refusal :=
  clockEdge s.takeEdge.1 s.takeEdge.2

/-- s with the command whose table bits are w presented at the very next edge, the inputs at their last sampled levels
(log 9, log 11). -/
def State.withFetchWord (s : State) (nbits w : Nat) : State :=
  { s with pending := commandEdge (CommandWord.ofTable nbits w) s.sample :: s.pending }

end Sys2Proof.Machine
end

