-- ==== Sys2Proof/WellFormed.lean ====
section
/-! DEFINITION. What is checked before anything runs. Every term of `Instr` is well formed: the widths are in its
types, and no operand bit pattern is illegal (spec/30_encoding.md R75). Two things can be ill formed: a set of build
parameters (spec/00_scope.md R8), which the model refuses, and a command word as the spec writes one (a legal opcode,
every field the command does not read written as 0: R73, R79). -/

namespace Sys2Proof

/-- A candidate configuration: the six build parameters of R7 as bare numbers. -/
structure RawConfig where
  ppr         : Nat
  maxAngleQ   : Nat
  tolQ        : Nat
  pulseFreqHz : Nat
  minBurst    : Nat
  maxBurst    : Nat
  deriving DecidableEq, Repr

/-- R8's constraints, one conjunct each, in R8's order. -/
def RawConfig.wf (r : RawConfig) : Bool :=
  decide (1 ≤ r.ppr ∧ r.ppr ≤ 2147483647)
    && decide (r.maxAngleQ ≤ 2147483647)
    && decide (r.tolQ ≤ 2147483647)
    && decide (1 ≤ r.pulseFreqHz ∧ r.pulseFreqHz ≤ 4294967295)
    && decide (1 ≤ r.minBurst ∧ r.minBurst ≤ r.maxBurst ∧ r.maxBurst ≤ 4294967295)

/-- R8: the parameters of an instance, or none where a constraint is broken (the model refuses it). -/
def Params.make? (ppr maxAngleQ tolQ : Nat) : Option Params :=
  if h : (1 ≤ ppr ∧ ppr ≤ 2147483647) ∧ maxAngleQ ≤ 2147483647 ∧ tolQ ≤ 2147483647 then
    some ⟨ppr, maxAngleQ, tolQ, h⟩
  else none

/-- The whole configuration of an instance, with the values R7 fixes. -/
def Params.raw (p : Params) : RawConfig where
  ppr := p.ppr
  maxAngleQ := p.maxAngleQ
  tolQ := p.tolQ
  pulseFreqHz := Config.pulseFreqHz
  minBurst := Config.minBurst.toNat
  maxBurst := Config.maxBurst.toNat

/-- R73: the legal opcodes are 0x01 to 0x09, 0x10 to 0x15 and 0x20 to 0x27. -/
def legalOpcode (op : Opcode) : Bool :=
  let n := op.toNat
  decide (1 ≤ n ∧ n ≤ 9) || decide (16 ≤ n ∧ n ≤ 21) || decide (32 ≤ n ∧ n ≤ 39)

/-- R73, R75: the operand bits a command reads, a mask for each of CMD_ARG0, CMD_ARG1 and CMD_ARG2. -/
def usedBits (op : Opcode) : Word × Word × Word :=
  let n := op.toNat
  if n = 0x06 ∨ n = 0x07 ∨ n = 0x08 ∨ n = 0x21 then (0xFFFFFFFF#32, 0#32, 0#32)
  else if n = 0x11 then (1#32, 0xFFFFFFFF#32, 0xFFFFFFFF#32)
  else (0#32, 0#32, 0#32)

/-- The word with every ignored operand bit written as 0 (R75, R79). -/
def CommandWord.canonical (w : CommandWord) : CommandWord where
  op := w.op
  arg0 := w.arg0 &&& (usedBits w.op).1
  arg1 := w.arg1 &&& (usedBits w.op).2.1
  arg2 := w.arg2 &&& (usedBits w.op).2.2

/-- A command word as R79 writes one: a legal opcode, the ignored bits 0. -/
def CommandWord.wf (w : CommandWord) : Bool :=
  legalOpcode w.op && decide (w.canonical = w)

end Sys2Proof
end

