-- ==== Sys2Proof/Safety.lean ====
section
/-! DEFINITION. What counts as a safe state and a safe run of BAQU-CORE (spec/10_state.md R38), and the terms in which
claims about runs are stated: command sequences on the ports, and the ideal plant of
spec/42_position_controller.md R174. -/

namespace Sys2Proof.Safety

open Sys2Proof.Machine

/-- The outcome is a next state, and it has the property P. -/
def Answers (o : Host.Outcome State Fault Refusal) (P : State → Prop) : Prop :=
  ∃ t, o = .next t ∧ P t

/-- The output line a direction selects (R28, R34). -/
def outLine (s : State) : Direction → Bool
  | .fwd => s.outFwd
  | .rev => s.outRev

/-- The other direction. -/
def otherDir : Direction → Direction
  | .fwd => .rev
  | .rev => .fwd

/-- R38: the invariants I1 to I8, one field each. -/
structure Inv (s : State) : Prop where
  /-- I1 -/
  emitted_le_requested : u32 s.pgEmitted ≤ u32 s.pgRequested
  /-- I2 -/
  not_both_high : ¬ (s.outFwd = true ∧ s.outRev = true)
  /-- I3 -/
  low_unless_running : s.pgState ≠ .running → s.outFwd = false ∧ s.outRev = false
  /-- I4 -/
  running_line : s.pgState = .running →
    outLine s s.pgDir = s.pgLevel ∧ outLine s (otherDir s.pgDir) = false
  /-- I5 -/
  running_emitted : s.pgState = .running → u32 s.pgEmitted < u32 s.pgRequested
  /-- I6 -/
  target_range : -(s.params.maxAngleQ : Int) ≤ s32 s.pcTarget ∧ s32 s.pcTarget ≤ (s.params.maxAngleQ : Int)
  /-- I7 -/
  interval_range : 1 ≤ u32 s.pgInterval ∧ u32 s.pgInterval ≤ 500000
  /-- I8: by the type of PG_STATE (log 6). -/
  pgState_code : s.pgState.code.toNat = 0 ∨ s.pgState.code.toNat = 1 ∨ s.pgState.code.toNat = 2

/-- n steps of the machine as the host runs it, stopping at the first fault or refusal. -/
def steps (n : Nat) (s : State) : Host.Outcome State Fault Refusal :=
  Host.Core.run Sys2Proof.core n s

/-- A safe run of n steps: no step stops, and the state it ends in meets R38. -/
def SafeRun (n : Nat) (s : State) : Prop :=
  Answers (steps n s) Inv

/-! ### Registers a component owns (R20) -/

/-- The decoder's registers are the same in s and t. -/
abbrev SameQd (s t : State) : Prop :=
  t.qdPrev = s.qdPrev ∧ t.qdRaw = s.qdRaw ∧ t.qdOffset = s.qdOffset

/-- The generator's registers and outputs are the same in s and t. -/
abbrev SamePg (s t : State) : Prop :=
  t.pgState = s.pgState ∧ t.pgDir = s.pgDir ∧ t.pgEmitted = s.pgEmitted ∧ t.pgRequested = s.pgRequested ∧
    t.pgInterval = s.pgInterval ∧ t.pgLevel = s.pgLevel ∧ t.pgLastT = s.pgLastT ∧
    t.outFwd = s.outFwd ∧ t.outRev = s.outRev

/-- The controller's registers are the same in s and t. -/
abbrev SamePc (s t : State) : Prop :=
  t.pcState = s.pcState ∧ t.pcTarget = s.pcTarget

/-- The build parameters and the input ports are the same in s and t. -/
abbrev SamePorts (s t : State) : Prop :=
  t.params = s.params ∧ t.sample = s.sample ∧ t.pending = s.pending ∧ t.drawIndex = s.drawIndex

/-! ### Command sequences -/

/-- s with the given commands presented at the next edges, each with its inputs, before whatever was pending. -/
def present (cs : List (Instr × Sample)) (s : State) : State :=
  { s with pending := cs.map (fun c => commandEdge (encode c.1) c.2) ++ s.pending }

/-- The machine run over the given commands (R58: one at a time, in the order the host issues them). -/
def runCommands (cs : List (Instr × Sample)) (s : State) : Host.Outcome State Fault Refusal :=
  steps cs.length (present cs s)

/-- A QD_UPDATE for each sample. -/
def decodeSteps (xs : List Sample) : List (Instr × Sample) := xs.map (fun x => (.qdUpdate, x))

/-- A PG_UPDATE for each sample. -/
def polls (xs : List Sample) : List (Instr × Sample) := xs.map (fun x => (.pgUpdate, x))

/-- Microseconds from the time of x to the time of y, modulo 2^32 (R208). -/
def since (x y : Sample) : Nat := (y.timeUs - x.timeUs).toNat

/-- The sum of the LUT entries of the transitions of a sequence of samples, from the phase state p (R115). -/
def lutSum (p : BitVec 2) : List Sample → Int
  | [] => 0
  | x :: xs => lut (p ++ phaseState x.phaseA x.phaseB) + lutSum (phaseState x.phaseA x.phaseB) xs

/-- One clean cycle in the A-leads-B direction from 00: 10, 11, 01, 00 (R52(e), R115). -/
def cleanCycle : List Sample :=
  [⟨true, false, 0#32⟩, ⟨true, true, 0#32⟩, ⟨false, true, 0#32⟩, ⟨false, false, 0#32⟩]

/-- One clean cycle in the reverse direction from 00: 01, 11, 10, 00 (R115). -/
def reverseCycle : List Sample :=
  [⟨false, true, 0#32⟩, ⟨true, true, 0#32⟩, ⟨true, false, 0#32⟩, ⟨false, false, 0#32⟩]

/-! ### The ideal plant of R174 -/

/-- P1: a rising edge on OUT_FWD from s to t adds 1 to QD_RAW, one on OUT_REV subtracts 1. -/
def idealPlant (s t : State) : State :=
  if s.outFwd = false ∧ t.outFwd = true then { t with qdRaw := t.qdRaw + 1#32 }
  else if s.outRev = false ∧ t.outRev = true then { t with qdRaw := t.qdRaw - 1#32 }
  else t

/-- n PC_UPDATE commands from s to u under the ideal plant, no other command (P4), each poll of a running generator at
least PG_INTERVAL after the last transition (P2). -/
inductive IdealRun : Nat → State → State → Prop
  | done (s : State) : IdealRun 0 s s
  | poll {n : Nat} {s t u : State} (x : Sample)
      (due : s.pgState = .running → s.pgInterval.toNat ≤ (x.timeUs - s.pgLastT).toNat)
      (update : exec .pcUpdate (s.latch x) = .next t)
      (rest : IdealRun n (idealPlant s t) u) : IdealRun (n + 1) s u

end Sys2Proof.Safety
end

