-- ==== Sys2Proof/Certificates/Slice0/Obligations.lean ====
section
/-! DEFINITION. The statements about BAQU-CORE that the provers are to settle. Each docstring names the rule of spec/
that it formalises; where the spec itself derives a rule, or the model adds something, the docstring says so. -/

open Sys2Proof Sys2Proof.Machine Sys2Proof.Safety

/-! ### Encoding -/

/-- R73: the 23 rows of the opcode map, each selected by CMD_OP alone with the operands of its row, and no other
opcode selects a command. -/
def Obligations.OpcodeMapSelectsTheCommand : Prop :=
  (∀ a b c : Word,
    decode ⟨0x01#8, a, b, c⟩ = .ok .qdInit ∧
    decode ⟨0x02#8, a, b, c⟩ = .ok .qdUpdate ∧
    decode ⟨0x03#8, a, b, c⟩ = .ok .qdGetRaw ∧
    decode ⟨0x04#8, a, b, c⟩ = .ok .qdGetCount ∧
    decode ⟨0x05#8, a, b, c⟩ = .ok .qdReset ∧
    decode ⟨0x06#8, a, b, c⟩ = .ok (.qdSetOffset a) ∧
    decode ⟨0x07#8, a, b, c⟩ = .ok (.qdCountToAngle a) ∧
    decode ⟨0x08#8, a, b, c⟩ = .ok (.qdAngleToCount a) ∧
    decode ⟨0x09#8, a, b, c⟩ = .ok .qdGetAngle ∧
    decode ⟨0x10#8, a, b, c⟩ = .ok .pgInit ∧
    decode ⟨0x11#8, a, b, c⟩ = .ok (.pgStart (if a.getLsbD 0 then .rev else .fwd) b c) ∧
    decode ⟨0x12#8, a, b, c⟩ = .ok .pgStop ∧
    decode ⟨0x13#8, a, b, c⟩ = .ok .pgUpdate ∧
    decode ⟨0x14#8, a, b, c⟩ = .ok .pgGetState ∧
    decode ⟨0x15#8, a, b, c⟩ = .ok .pgGetCount ∧
    decode ⟨0x20#8, a, b, c⟩ = .ok .pcInit ∧
    decode ⟨0x21#8, a, b, c⟩ = .ok (.pcSetTarget a) ∧
    decode ⟨0x22#8, a, b, c⟩ = .ok .pcUpdate ∧
    decode ⟨0x23#8, a, b, c⟩ = .ok .pcGetTarget ∧
    decode ⟨0x24#8, a, b, c⟩ = .ok .pcGetCurrent ∧
    decode ⟨0x25#8, a, b, c⟩ = .ok .pcGetState ∧
    decode ⟨0x26#8, a, b, c⟩ = .ok .pcHoming ∧
    decode ⟨0x27#8, a, b, c⟩ = .ok .pcEstop) ∧
  ∀ (w : CommandWord) (i : Instr), decode w = .ok i →
    w.op ∈ [0x01#8, 0x02#8, 0x03#8, 0x04#8, 0x05#8, 0x06#8, 0x07#8, 0x08#8, 0x09#8, 0x10#8, 0x11#8, 0x12#8,
      0x13#8, 0x14#8, 0x15#8, 0x20#8, 0x21#8, 0x22#8, 0x23#8, 0x24#8, 0x25#8, 0x26#8, 0x27#8]

/-- R74: which opcodes are illegal, that there are 233 of them, and that an edge that accepts one changes no register
and no output and answers RSP_STATUS = 1, RSP_DATA = 0, whatever its operands and inputs. (The sample x is latched in
the model's own field; no register takes it.) -/
def Obligations.IllegalOpcodeOnlyAnswersStatusOne : Prop :=
  (∀ w : CommandWord, (∀ i, decode w ≠ .ok i) ↔
    (w.op.toNat = 0 ∨ (0x0A ≤ w.op.toNat ∧ w.op.toNat ≤ 0x0F) ∨ (0x16 ≤ w.op.toNat ∧ w.op.toNat ≤ 0x1F) ∨
      0x28 ≤ w.op.toNat)) ∧
  ((List.range 256).filter fun n => (decode ⟨BitVec.ofNat 8 n, 0#32, 0#32, 0#32⟩).toOption.isNone).length = 233 ∧
  ∀ (s : State) (w : CommandWord) (x : Sample), (∀ i, decode w ≠ .ok i) →
    clockEdge (commandEdge w x) s = .next { s with sample := x, rspStatus := true, rspData := 0#32 }

/-- Encoder and decoder agree (R72, R73, R75, R79): every command decodes from its own word, and a word decodes to a
command exactly when it is that command's word but for the bits R75 says are ignored. -/
def Obligations.DecodeAgreesWithEncode : Prop :=
  (∀ i : Instr, decode (encode i) = .ok i) ∧
  ∀ (w : CommandWord) (i : Instr), decode w = .ok i ↔ w.canonical = encode i

/-- R75: no bit pattern in the ignored operand bits changes the result, of a legal or an illegal opcode. -/
def Obligations.IgnoredOperandBitsNeverMatter : Prop :=
  ∀ (w v : CommandWord) (x : Sample) (s : State), w.op = v.op →
    (w.op ∈ [0x06#8, 0x07#8, 0x08#8, 0x21#8] → w.arg0 = v.arg0) →
    (w.op = 0x11#8 → w.arg0.getLsbD 0 = v.arg0.getLsbD 0 ∧ w.arg1 = v.arg1 ∧ w.arg2 = v.arg2) →
      clockEdge (commandEdge w x) s = clockEdge (commandEdge v x) s

/-! ### One step -/

/-- R71: a step takes the first edge that resets the block or accepts a command, samples the inputs there and runs the
decoded command whole; an idle edge changes nothing. (The list of known edges, and that a step passes over idle ones,
are the model's: log 1, log 2.) -/
def Obligations.StepRunsTheAcceptedCommand : Prop :=
  (∀ (s : State) (idle rest : List Edge) (e : Edge),
    (∀ d ∈ idle, d.rst = false ∧ d.cmdValid = false) → (e.rst = true ∨ e.cmdValid = true) →
    s.pending = idle ++ e :: rest →
      step s = clockEdge e { s with pending := rest } ∧
      ∀ i, e.rst = false → decode e.cmd = .ok i →
        step s = exec i { s with pending := rest, sample := e.sample }) ∧
  ∀ (e : Edge) (s : State), e.rst = false → e.cmdValid = false → clockEdge e s = .next s

/-- The model's own (log 1, log 2): when no known edge presents anything, the step is that of the free draw of the
input ports, and the next draw is a later one. -/
def Obligations.StepDrawsUnknownInputs : Prop :=
  ∀ s : State, (∀ e ∈ s.pending, e.rst = false ∧ e.cmdValid = false) →
    step s = clockEdge (drawnEdge s.drawIndex) { s with pending := [], drawIndex := s.drawIndex + 1 } ∧
    (drawnEdge s.drawIndex).cmdValid = true

/-- R58 over runs: commands execute one at a time in the order the host issues them, and a later command sees every
write of an earlier one. -/
def Obligations.CommandsRunInTheOrderIssued : Prop :=
  ∀ (i : Instr) (x : Sample) (cs : List (Instr × Sample)) (s : State),
    Answers (exec i (s.latch x)) fun t => runCommands ((i, x) :: cs) s = runCommands cs t

/-- R220, R221: at an edge with RST = 1 every register takes its reset value, QD_PREV the phase inputs of that edge,
both response ports 0, whether or not a command is presented; and that is the state QD_INIT, PG_INIT and PC_INIT leave
in that order with the same phase inputs. -/
def Obligations.ResetEdgeWinsAndEqualsTheInits : Prop :=
  ∀ (s : State) (e : Edge), e.rst = true →
    let t : State :=
      { s with
        qdPrev := phaseState e.sample.phaseA e.sample.phaseB, qdRaw := 0#32, qdOffset := 0#32
        pgState := .idle, pgDir := .fwd, pgEmitted := 0#32, pgRequested := 0#32, pgInterval := 1#32
        pgLevel := false, pgLastT := 0#32, outFwd := false, outRev := false
        pcState := .idle, pcTarget := 0#32, rspStatus := false, rspData := 0#32, sample := e.sample }
    clockEdge e s = .next t ∧
    Answers (exec .qdInit (s.latch e.sample)) fun a => Answers (exec .pgInit a) fun b => exec .pcInit b = .next t

/-- R43 on State.reset: the reset value of every register; QD_PREV is the phase state of the sample taken at reset
(its value is a free draw, log 4). The build parameters meet R8. -/
def Obligations.ResetStateHasTheResetValues : Prop :=
  State.reset.qdPrev = phaseState State.reset.sample.phaseA State.reset.sample.phaseB ∧
  State.reset.qdRaw = 0#32 ∧ State.reset.qdOffset = 0#32 ∧ State.reset.pgState = .idle ∧
  State.reset.pgDir = .fwd ∧ State.reset.pgEmitted = 0#32 ∧ State.reset.pgRequested = 0#32 ∧
  State.reset.pgInterval = 1#32 ∧ State.reset.pgLevel = false ∧ State.reset.pgLastT = 0#32 ∧
  State.reset.outFwd = false ∧ State.reset.outRev = false ∧ State.reset.pcState = .idle ∧
  State.reset.pcTarget = 0#32 ∧ State.reset.rspStatus = false ∧ State.reset.rspData = 0#32 ∧
  State.reset.params.raw.wf = true

/-- R200 (no exceptions, no traps): from every state a step answers a next state, whatever the host presents. -/
def Obligations.EveryStepAnswersANextState : Prop :=
  ∀ s : State, ∃ t, step s = .next t

/-- R76: every legal command answers with RSP_STATUS = 0, and every accepted command, an illegal one too, writes both
response ports: what they held before makes no difference. -/
def Obligations.EveryCommandAnswersAndWritesBothPorts : Prop :=
  (∀ (i : Instr) (s : State), Answers (exec i s) fun t => t.rspStatus = false) ∧
  ∀ (w : CommandWord) (x : Sample) (s : State) (st : Bool) (d : Word),
    clockEdge (commandEdge w x) { s with rspStatus := st, rspData := d } = clockEdge (commandEdge w x) s

/-- R77: RSP_DATA after each of the 23 commands. -/
def Obligations.ResponseDataTable : Prop :=
  ∀ (s : State) (d : Direction) (v n f : Word),
    Answers (exec .qdInit s) (fun t => t.rspData = 0#32) ∧
    Answers (exec .qdUpdate s) (fun t => t.rspData = 0#32) ∧
    Answers (exec .qdReset s) (fun t => t.rspData = 0#32) ∧
    Answers (exec (.qdSetOffset v) s) (fun t => t.rspData = 0#32) ∧
    Answers (exec .qdGetRaw s) (fun t => t.rspData = s.qdRaw) ∧
    Answers (exec .qdGetCount s) (fun t => t.rspData = s.qdRaw - s.qdOffset) ∧
    Answers (exec (.qdCountToAngle v) s) (fun t => t.rspData.toInt = c2a s.params v.toInt) ∧
    Answers (exec (.qdAngleToCount v) s) (fun t => t.rspData.toInt = a2c s.params v.toInt) ∧
    Answers (exec .qdGetAngle s) (fun t => t.rspData.toInt = c2a s.params (s.qdRaw - s.qdOffset).toInt) ∧
    Answers (exec .pgInit s) (fun t => t.rspData = 0#32) ∧
    Answers (exec (.pgStart d n f) s) (fun t => t.rspData = 0#32) ∧
    Answers (exec .pgStop s) (fun t => t.rspData = 0#32) ∧
    Answers (exec .pgUpdate s) (fun t => t.rspData = 0#32) ∧
    Answers (exec .pgGetState s) (fun t => t.rspData.toNat = s.pgState.code.toNat) ∧
    Answers (exec .pgGetCount s) (fun t => t.rspData = s.pgEmitted) ∧
    Answers (exec .pcInit s) (fun t => t.rspData = 0#32) ∧
    Answers (exec (.pcSetTarget v) s) (fun t => t.rspData = 0#32) ∧
    Answers (exec .pcUpdate s) (fun t => t.rspData = 0#32) ∧
    Answers (exec .pcHoming s) (fun t => t.rspData = 0#32) ∧
    Answers (exec .pcEstop s) (fun t => t.rspData = 0#32) ∧
    Answers (exec .pcGetTarget s) (fun t => t.rspData = s.pcTarget) ∧
    Answers (exec .pcGetCurrent s) (fun t => t.rspData.toInt = c2a s.params (s.qdRaw - s.qdOffset).toInt) ∧
    Answers (exec .pcGetState s) (fun t => t.rspData.toNat = s.pcState.code.toNat)

/-! ### Quadrature Decoder -/

/-- R52 on the table of R51: (a) and (b) which entries are 0 and ±1, (c) rows sum to 0, (d) antisymmetry, (e) the
A-leads-B cycle adds 4. The sign of the ±1 entries is the spec's own choice (D19, G1, log 8). -/
def Obligations.LutTableProperties : Prop :=
  (∀ p c : BitVec 2, (lut (p ++ c) = 0 ↔ p = c ∨ p ^^^ c = 3#2)) ∧
  (∀ p c : BitVec 2, ((lut (p ++ c) = 1 ∨ lut (p ++ c) = -1) ↔ p ^^^ c = 1#2 ∨ p ^^^ c = 2#2)) ∧
  (∀ p : BitVec 2, lut (p ++ 0#2) + lut (p ++ 1#2) + lut (p ++ 2#2) + lut (p ++ 3#2) = 0) ∧
  (∀ p c : BitVec 2, lut (p ++ c) = -lut (c ++ p)) ∧
  lut (0#2 ++ 2#2) + lut (2#2 ++ 3#2) + lut (3#2 ++ 1#2) + lut (1#2 ++ 0#2) = 4

/-- R105 QD_INIT: its opcode, its next state, and nothing else changed. -/
def Obligations.QdInitSeedsAndClears : Prop :=
  (∀ a b c : Word, decode ⟨0x01#8, a, b, c⟩ = .ok .qdInit) ∧
  ∀ s : State, exec .qdInit s = .next
    { s with qdPrev := phaseState s.sample.phaseA s.sample.phaseB, qdRaw := 0#32, qdOffset := 0#32
             rspStatus := false, rspData := 0#32 }

/-- R100, R106 QD_UPDATE: the LUT entry at {QD_PREV, A, B}, in {-1, 0, +1}, is added to QD_RAW modulo 2^32 and {A, B}
becomes QD_PREV; nothing else changes. -/
def Obligations.QdUpdateAddsTheLutEntry : Prop :=
  (∀ a b c : Word, decode ⟨0x02#8, a, b, c⟩ = .ok .qdUpdate) ∧
  ∀ s : State,
    let d := lut (s.qdPrev ++ phaseState s.sample.phaseA s.sample.phaseB)
    (d = -1 ∨ d = 0 ∨ d = 1) ∧
    exec .qdUpdate s = .next
      { s with qdRaw := s.qdRaw + BitVec.ofInt 32 d, qdPrev := phaseState s.sample.phaseA s.sample.phaseB
               rspStatus := false, rspData := 0#32 }

/-- R114 (the spec derives it): no motion and a double-bit change leave QD_RAW as it was, and still store the sample. -/
def Obligations.QdUpdateIgnoresNoise : Prop :=
  ∀ s : State, (s.phaseNow = s.qdPrev ∨ s.phaseNow = s.qdPrev ^^^ 3#2) →
    Answers (exec .qdUpdate s) fun t => t.qdRaw = s.qdRaw ∧ t.qdPrev = s.phaseNow

/-- R224's table (the spec derives it), forward and reverse: with p, q, r, u the phase states of one cycle in the
direction of motion, a sample after one transition counts one step, after two none, after three one step the wrong way,
after four none. Directions as in R51 (the spec's own sign choice, log 8). -/
def Obligations.UndersamplingMiscounts : Prop :=
  ∀ (s : State) (p q r u : BitVec 2) (d : Int),
    ((p, q, r, u, d) ∈
      [(0#2, 2#2, 3#2, 1#2, (1 : Int)), (2#2, 3#2, 1#2, 0#2, 1), (3#2, 1#2, 0#2, 2#2, 1), (1#2, 0#2, 2#2, 3#2, 1),
       (0#2, 1#2, 3#2, 2#2, -1), (1#2, 3#2, 2#2, 0#2, -1), (3#2, 2#2, 0#2, 1#2, -1), (2#2, 0#2, 1#2, 3#2, -1)]) →
    s.qdPrev = p →
    Answers (exec .qdUpdate s) fun t =>
      (s.phaseNow = q → t.qdRaw = s.qdRaw + BitVec.ofInt 32 d) ∧
      (s.phaseNow = r → t.qdRaw = s.qdRaw) ∧
      (s.phaseNow = u → t.qdRaw = s.qdRaw - BitVec.ofInt 32 d) ∧
      (s.phaseNow = p → t.qdRaw = s.qdRaw)

/-- R115 (the spec derives it), over runs of the machine: after any sequence of QD_UPDATE commands QD_RAW is its
starting value plus the sum of the LUT entries of the transitions, modulo 2^32; k clean cycles add 4k or subtract 4k
(so PPR/4 cycles move the count by PPR when 4 divides PPR); the other components are untouched. Which of the two cycles
adds and which subtracts rests on the sign of the LUT, the spec's own choice from general knowledge (D19, G1; log 8). -/
def Obligations.QdUpdateSequencesSumTheTable : Prop :=
  (∀ (s : State) (xs : List Sample),
    Answers (runCommands (decodeSteps xs) s) fun t =>
      t.qdRaw = s.qdRaw + BitVec.ofInt 32 (lutSum s.qdPrev xs) ∧ t.qdOffset = s.qdOffset ∧
      SamePg s t ∧ SamePc s t) ∧
  (∀ (s : State) (k : Nat), s.qdPrev = 0#2 →
    Answers (runCommands (decodeSteps (List.replicate k cleanCycle).flatten) s) fun t =>
      t.qdRaw = s.qdRaw + BitVec.ofNat 32 (4 * k) ∧ t.qdPrev = 0#2) ∧
  ∀ (s : State) (k : Nat), s.qdPrev = 0#2 →
    Answers (runCommands (decodeSteps (List.replicate k reverseCycle).flatten) s) fun t =>
      t.qdRaw = s.qdRaw - BitVec.ofNat 32 (4 * k) ∧ t.qdPrev = 0#2

/-- R107, R108 with R26: QD_GET_RAW and QD_GET_COUNT, their opcodes, results and frames. -/
def Obligations.QdCountReads : Prop :=
  (∀ a b c : Word, decode ⟨0x03#8, a, b, c⟩ = .ok .qdGetRaw ∧ decode ⟨0x04#8, a, b, c⟩ = .ok .qdGetCount) ∧
  ∀ s : State,
    exec .qdGetRaw s = .next { s with rspStatus := false, rspData := s.qdRaw } ∧
    exec .qdGetCount s = .next { s with rspStatus := false, rspData := s.qdRaw - s.qdOffset }

/-- R109, R110: QD_RESET and QD_SET_OFFSET write QD_OFFSET alone, and a QD_GET_COUNT right after QD_RESET answers 0,
after QD_SET_OFFSET v answers QD_RAW - v. -/
def Obligations.QdReferenceCommands : Prop :=
  (∀ a b c : Word, decode ⟨0x05#8, a, b, c⟩ = .ok .qdReset ∧ decode ⟨0x06#8, a, b, c⟩ = .ok (.qdSetOffset a)) ∧
  ∀ (s : State) (v : Word),
    exec .qdReset s = .next { s with qdOffset := s.qdRaw, rspStatus := false, rspData := 0#32 } ∧
    exec (.qdSetOffset v) s = .next { s with qdOffset := v, rspStatus := false, rspData := 0#32 } ∧
    Answers (exec .qdReset s) (fun t => Answers (exec .qdGetCount t) fun u => u.rspData = 0#32) ∧
    Answers (exec (.qdSetOffset v) s) (fun t => Answers (exec .qdGetCount t) fun u => u.rspData = s.qdRaw - v)

/-- R101, R111 QD_COUNT_TO_ANGLE: the exact product, truncated toward zero, saturated to 32 bits; saturation only when
|c| * 23592960 / PPR >= 2^31; a count of 0 gives 0. -/
def Obligations.CountToAngleResult : Prop :=
  (∀ a b c : Word, decode ⟨0x07#8, a, b, c⟩ = .ok (.qdCountToAngle a)) ∧
  ∀ (s : State) (v : Word),
    exec (.qdCountToAngle v) s = .next
      { s with
        rspStatus := false
        rspData := BitVec.ofInt 32
          (max (-2147483648) (min 2147483647 (Int.tdiv (v.toInt * 23592960) s.params.ppr))) } ∧
    Answers (exec (.qdCountToAngle v) s) fun t =>
      (v.toInt.natAbs * 23592960 < 2147483648 * s.params.ppr →
        t.rspData.toInt = Int.tdiv (v.toInt * 23592960) s.params.ppr) ∧
      (v = 0#32 → t.rspData = 0#32)

/-- R102, R112 QD_ANGLE_TO_COUNT: the exact product, truncated toward zero, saturated to 32 bits; 0 for any angle below
K_ANGLE / PPR. -/
def Obligations.AngleToCountResult : Prop :=
  (∀ a b c : Word, decode ⟨0x08#8, a, b, c⟩ = .ok (.qdAngleToCount a)) ∧
  ∀ (s : State) (v : Word),
    exec (.qdAngleToCount v) s = .next
      { s with
        rspStatus := false
        rspData := BitVec.ofInt 32
          (max (-2147483648) (min 2147483647 (Int.tdiv (v.toInt * s.params.ppr) 23592960))) } ∧
    Answers (exec (.qdAngleToCount v) s) fun t =>
      v.toInt.natAbs * s.params.ppr < 23592960 → t.rspData = 0#32

/-- R113, R169: QD_GET_ANGLE and PC_GET_CURRENT answer c2a of the logical count, the same value, and change nothing
else. -/
def Obligations.CurrentAngleReads : Prop :=
  (∀ a b c : Word, decode ⟨0x09#8, a, b, c⟩ = .ok .qdGetAngle ∧ decode ⟨0x24#8, a, b, c⟩ = .ok .pcGetCurrent) ∧
  ∀ s : State,
    exec .qdGetAngle s = .next
      { s with rspStatus := false, rspData := BitVec.ofInt 32 (c2a s.params (s.qdRaw - s.qdOffset).toInt) } ∧
    exec .pcGetCurrent s = exec .qdGetAngle s

/-- R116 (the spec derives it), through the two commands: where QD_ANGLE_TO_COUNT does not saturate, converting its
answer back by QD_COUNT_TO_ANGLE gives an angle of the same sign or 0, no larger in magnitude, and short of the operand
by less than K_ANGLE / PPR + 1. It never saturates when PPR <= K_ANGLE (the spec's own inference in R102). -/
def Obligations.AngleRoundTripLosesLessThanOneCount : Prop :=
  ∀ (s : State) (v : Word),
    let n := Int.tdiv (v.toInt * s.params.ppr) 23592960
    (s.params.ppr ≤ 23592960 → -2147483648 ≤ n ∧ n ≤ 2147483647) ∧
    (-2147483648 ≤ n → n ≤ 2147483647 →
      Answers (exec (.qdAngleToCount v) s) fun t =>
        Answers (exec (.qdCountToAngle t.rspData) t) fun u =>
          (0 ≤ v.toInt → 0 ≤ u.rspData.toInt ∧ u.rspData.toInt ≤ v.toInt) ∧
          (v.toInt ≤ 0 → v.toInt ≤ u.rspData.toInt ∧ u.rspData.toInt ≤ 0) ∧
          ((v.toInt.natAbs : Int) - u.rspData.toInt.natAbs) * s.params.ppr < 23592960 + s.params.ppr)

/-! ### Pulse Generator -/

/-- R130 through PG_START: the interval is the floor of 1000000 / (2 f), at least 1; it lies in [1, 500000]; f = 0 and
f >= 500001 give 1. -/
def Obligations.HalfCycleInterval : Prop :=
  ∀ (s : State) (d : Direction) (n f : Word),
    Answers (exec (.pgStart d n f) s) fun t =>
      (1 ≤ t.pgInterval.toNat ∧ t.pgInterval.toNat ≤ 500000) ∧
      (f.toNat = 0 → t.pgInterval.toNat = 1) ∧
      (500001 ≤ f.toNat → t.pgInterval.toNat = 1) ∧
      (1 ≤ f.toNat → f.toNat ≤ 500000 →
        t.pgInterval.toNat * (2 * f.toNat) ≤ 1000000 ∧ 1000000 < (t.pgInterval.toNat + 1) * (2 * f.toNat))

/-- R132, R136 PG_START: from any state the old session is dropped and the new one set up with both outputs low, RUNNING
for n >= 1 and COMPLETE at once for n = 0; decoder and controller are untouched. -/
def Obligations.PgStartOpensASession : Prop :=
  (∀ a b c : Word, decode ⟨0x11#8, a, b, c⟩ = .ok (.pgStart (if a.getLsbD 0 then .rev else .fwd) b c)) ∧
  ∀ (s : State) (d : Direction) (n f : Word),
    exec (.pgStart d n f) s = .next
      { s with
        outFwd := false, outRev := false, pgLevel := false
        pgInterval := BitVec.ofNat 32 (pgIntervalOf f.toNat), pgEmitted := 0#32, pgRequested := n, pgDir := d
        pgState := if n.toNat = 0 then .complete else .running, pgLastT := s.sample.timeUs
        rspStatus := false, rspData := 0#32 }

/-- R131, R137 PG_STOP: both outputs and PG_LEVEL low and IDLE from any state; every other register as it was. -/
def Obligations.PgStopForcesIdle : Prop :=
  (∀ a b c : Word, decode ⟨0x12#8, a, b, c⟩ = .ok .pgStop) ∧
  ∀ s : State, exec .pgStop s = .next
    { s with outFwd := false, outRev := false, pgLevel := false, pgState := .idle
             rspStatus := false, rspData := 0#32 }

/-- R135 PG_INIT: every generator register and both outputs at their reset values; decoder and controller untouched. -/
def Obligations.PgInitRestoresResetValues : Prop :=
  (∀ a b c : Word, decode ⟨0x10#8, a, b, c⟩ = .ok .pgInit) ∧
  ∀ s : State, exec .pgInit s = .next
    { s with
      outFwd := State.reset.outFwd, outRev := State.reset.outRev, pgLevel := State.reset.pgLevel
      pgState := State.reset.pgState, pgDir := State.reset.pgDir, pgEmitted := State.reset.pgEmitted
      pgRequested := State.reset.pgRequested, pgInterval := State.reset.pgInterval, pgLastT := State.reset.pgLastT
      rspStatus := false, rspData := 0#32 }

/-- R133, R138 PG_UPDATE: no effect unless RUNNING and due; a due poll makes exactly one transition on the selected line
and stamps it with now; a falling edge counts a pulse, and the one that reaches the request ends the session in
COMPLETE. (The premise that PG_EMITTED + 1 fits in 32 bits is invariant I5's; outside it the model wraps, log 7.) -/
def Obligations.PgUpdateMakesOneTransition : Prop :=
  (∀ a b c : Word, decode ⟨0x13#8, a, b, c⟩ = .ok .pgUpdate) ∧
  ∀ s : State,
    let now := s.sample.timeUs
    let due := s.pgState = .running ∧ s.pgInterval.toNat ≤ (now - s.pgLastT).toNat
    (¬ due → exec .pgUpdate s = .next { s with rspStatus := false, rspData := 0#32 }) ∧
    (due → s.pgLevel = false → exec .pgUpdate s = .next
      { s with
        outFwd := if s.pgDir = .fwd then true else s.outFwd
        outRev := if s.pgDir = .rev then true else s.outRev
        pgLevel := true, pgLastT := now, rspStatus := false, rspData := 0#32 }) ∧
    (due → s.pgLevel = true → s.pgEmitted.toNat + 1 < s.pgRequested.toNat → exec .pgUpdate s = .next
      { s with
        outFwd := if s.pgDir = .fwd then false else s.outFwd
        outRev := if s.pgDir = .rev then false else s.outRev
        pgLevel := false, pgEmitted := BitVec.ofNat 32 (s.pgEmitted.toNat + 1), pgLastT := now
        rspStatus := false, rspData := 0#32 }) ∧
    (due → s.pgLevel = true → s.pgRequested.toNat ≤ s.pgEmitted.toNat + 1 → s.pgEmitted.toNat + 1 < 4294967296 →
      exec .pgUpdate s = .next
        { s with
          outFwd := false, outRev := false, pgLevel := false, pgState := .complete
          pgEmitted := BitVec.ofNat 32 (s.pgEmitted.toNat + 1), pgLastT := now
          rspStatus := false, rspData := 0#32 })

/-- R139, R140: PG_GET_STATE answers the code of PG_STATE, never 3, and PG_GET_COUNT answers PG_EMITTED; nothing else
changes. The count is kept by PG_STOP, and outside RUNNING by every command that does not clear it; it is cleared to 0
only by PG_INIT and by a start: PG_START, or a PC_UPDATE that leaves a session just opened. The premise of the last
clause, R38's invariants, is kept by every step (EveryStepKeepsTheInvariants). -/
def Obligations.PgReads : Prop :=
  (∀ a b c : Word, decode ⟨0x14#8, a, b, c⟩ = .ok .pgGetState ∧ decode ⟨0x15#8, a, b, c⟩ = .ok .pgGetCount) ∧
  ∀ s : State,
    exec .pgGetState s = .next
      { s with rspStatus := false
               rspData := match s.pgState with | .idle => 0#32 | .running => 1#32 | .complete => 2#32 } ∧
    Answers (exec .pgGetState s) (fun t => t.rspData ≠ 3#32) ∧
    exec .pgGetCount s = .next { s with rspStatus := false, rspData := s.pgEmitted } ∧
    Answers (exec .pgStop s) (fun t => t.pgEmitted = s.pgEmitted) ∧
    ∀ (i : Instr) (t : State), exec i s = .next t →
      let cleared := t.pgEmitted = 0#32 ∧
        (i = .pgInit ∨ (∃ d n f, i = .pgStart d n f) ∨
          (i = .pcUpdate ∧ s.pcState = .moving ∧ t.pcState = .moving ∧ t.pgState = .running ∧
            t.pgLastT = s.sample.timeUs ∧ t.pgLevel = false ∧ t.outFwd = false ∧ t.outRev = false))
      (s.pgState ≠ .running → t.pgEmitted ≠ s.pgEmitted → cleared) ∧
      (Inv s → t.pgEmitted.toNat < s.pgEmitted.toNat → cleared)

/-- R134 over all 23 commands: the generator's state and outputs after each command, row by row. PC_UPDATE is its poll
(u is the state PG_UPDATE would leave), then a stop at arrival, the running burst as polled, or a new burst. R38's
invariants, which the rows "both 0" and "= PG_REQUESTED" of a falling edge rest on, are kept by every step. -/
def Obligations.GeneratorStateMachine : Prop :=
  ∀ (i : Instr) (s t : State), exec i s = .next t →
    let low := t.outFwd = false ∧ t.outRev = false
    let due := s.pgInterval.toNat ≤ (s.sample.timeUs - s.pgLastT).toNat
    match i with
    | .pgInit | .pgStop | .pcHoming | .pcEstop => t.pgState = .idle ∧ low
    | .pgStart _ n _ => (t.pgState = if n.toNat = 0 then .complete else .running) ∧ low
    | .pgUpdate =>
        (s.pgState ≠ .running → SamePg s t) ∧
        (s.pgState = .running → ¬ due → SamePg s t) ∧
        (s.pgState = .running → due → s.pgLevel = false → t.pgState = .running ∧ outLine t s.pgDir = true) ∧
        (s.pgState = .running → due → s.pgLevel = true → Inv s →
          (t.pgState = if s.pgEmitted.toNat + 1 = s.pgRequested.toNat then .complete else .running) ∧ low)
    | .pcUpdate =>
        (s.pcState ≠ .moving → SamePg s t) ∧
        (s.pcState = .moving → t.pcState = .arrived → t.pgState = .idle ∧ low) ∧
        (∀ u, s.pcState = .moving → t.pcState ≠ .arrived → exec .pgUpdate s = .next u → u.pgState = .running →
          SamePg u t) ∧
        (∀ u, s.pcState = .moving → t.pcState ≠ .arrived → exec .pgUpdate s = .next u → u.pgState ≠ .running →
          t.pgState = .running ∧ low)
    | _ => SamePg s t

/-- R141 (the spec derives it), over runs of the machine: a PG_START of n >= 1 pulses in direction d at time x, then
polls each at least one interval after the last. After k of the first 2n polls the selected line is high exactly for odd
k, the other line is low, k/2 pulses are counted, and the session is RUNNING before the 2n-th poll and COMPLETE at it;
later polls change no generator register. -/
def Obligations.BurstEmitsExactlyTheRequestedPulses : Prop :=
  ∀ (s : State) (d : Direction) (n f : Word) (x : Sample) (ys zs : List Sample),
    n ≠ 0#32 → ys.length = 2 * n.toNat →
    (∀ (j : Nat) (h : j < ys.length),
      pgIntervalOf f.toNat ≤ since ((x :: ys)[j]'(by simp; omega)) ys[j]) →
    (∀ k, k ≤ 2 * n.toNat →
      Answers (runCommands ((.pgStart d n f, x) :: polls (ys.take k)) s) fun t =>
        outLine t d = decide (k % 2 = 1) ∧ outLine t (otherDir d) = false ∧ t.pgEmitted.toNat = k / 2 ∧
        t.pgState = if k < 2 * n.toNat then .running else .complete) ∧
    Answers (runCommands ((.pgStart d n f, x) :: polls ys) s) fun t =>
      Answers (runCommands ((.pgStart d n f, x) :: polls (ys ++ zs)) s) fun u => SamePg t u

/-- R142 (the spec derives it), over runs of the machine: in RUNNING, polls before the interval is over change no
generator register, and the first poll at least PG_INTERVAL after PG_LAST_T makes the transition and sets PG_LAST_T to
its own time. -/
def Obligations.TransitionAtTheFirstDuePoll : Prop :=
  ∀ (s : State) (early : List Sample) (x : Sample), s.pgState = .running →
    (∀ y ∈ early, (y.timeUs - s.pgLastT).toNat < s.pgInterval.toNat) →
    s.pgInterval.toNat ≤ (x.timeUs - s.pgLastT).toNat →
    Answers (runCommands (polls early) s) (fun t => SamePg s t) ∧
    Answers (runCommands (polls (early ++ [x])) s) fun t => t.pgLastT = x.timeUs ∧ t.pgLevel = !s.pgLevel

/-! ### Position Controller -/

/-- R165 PC_INIT: target 0 and IDLE; the decoder and the generator are not touched. -/
def Obligations.PcInitTouchesOnlyTheController : Prop :=
  (∀ a b c : Word, decode ⟨0x20#8, a, b, c⟩ = .ok .pcInit) ∧
  ∀ s : State, exec .pcInit s = .next
    { s with pcTarget := 0#32, pcState := .idle, rspStatus := false, rspData := 0#32 }

/-- R166 PC_SET_TARGET: the operand clamped to ±MAX_ANGLE_Q, bounds inclusive, is stored, and the controller is MOVING,
from any state; the generator is not touched. -/
def Obligations.PcSetTargetClampsAndMoves : Prop :=
  (∀ a b c : Word, decode ⟨0x21#8, a, b, c⟩ = .ok (.pcSetTarget a)) ∧
  ∀ (s : State) (v : Word),
    exec (.pcSetTarget v) s = .next
      { s with
        pcTarget := BitVec.ofInt 32 (max (-(s.params.maxAngleQ : Int)) (min s.params.maxAngleQ v.toInt))
        pcState := .moving, rspStatus := false, rspData := 0#32 } ∧
    Answers (exec (.pcSetTarget v) s) fun t =>
      (-(s.params.maxAngleQ : Int) ≤ t.pcTarget.toInt ∧ t.pcTarget.toInt ≤ s.params.maxAngleQ) ∧
      (-(s.params.maxAngleQ : Int) ≤ v.toInt → v.toInt ≤ s.params.maxAngleQ → t.pcTarget = v)

/-- R167 with R160 to R163, PC_UPDATE: nothing unless MOVING. When MOVING, with u the state that PG_UPDATE would leave
and e the exact error: within tolerance (strictly) the generator is stopped and the controller has ARRIVED; else a burst
still RUNNING is waited for; else the command is PG_START at u, toward the target, of |e| in counts clamped to [10, 1000]
pulses, at 100 kHz and the same sample of now. The error never leaves 33 bits and a sign. -/
def Obligations.PcUpdateTurnsTheLoop : Prop :=
  (∀ a b c : Word, decode ⟨0x22#8, a, b, c⟩ = .ok .pcUpdate) ∧
  (∀ s : State, s.pcState ≠ .moving → exec .pcUpdate s = .next { s with rspStatus := false, rspData := 0#32 }) ∧
  ∀ s u : State, s.pcState = .moving → exec .pgUpdate s = .next u →
    let e : Int := s.pcTarget.toInt - c2a s.params (s.qdRaw - s.qdOffset).toInt
    let n : Int := max 10 (min 1000 (Int.tdiv (e.natAbs * s.params.ppr) 23592960))
    e.natAbs ≤ 4294967295 ∧ (10 ≤ n ∧ n ≤ 1000) ∧
    (e.natAbs < s.params.tolQ → exec .pcUpdate s = .next
      { u with outFwd := false, outRev := false, pgLevel := false, pgState := .idle, pcState := .arrived }) ∧
    (s.params.tolQ ≤ e.natAbs → u.pgState = .running → exec .pcUpdate s = .next u) ∧
    (s.params.tolQ ≤ e.natAbs → u.pgState ≠ .running →
      exec .pcUpdate s = exec (.pgStart (if 0 < e then .fwd else .rev) (BitVec.ofInt 32 n) 100000#32) u)

/-- R168, R170: PC_GET_TARGET and PC_GET_STATE; nothing else changes. -/
def Obligations.PcReads : Prop :=
  (∀ a b c : Word, decode ⟨0x23#8, a, b, c⟩ = .ok .pcGetTarget ∧ decode ⟨0x25#8, a, b, c⟩ = .ok .pcGetState) ∧
  ∀ s : State,
    exec .pcGetTarget s = .next { s with rspStatus := false, rspData := s.pcTarget } ∧
    (Inv s → -(s.params.maxAngleQ : Int) ≤ s.pcTarget.toInt ∧ s.pcTarget.toInt ≤ s.params.maxAngleQ) ∧
    exec .pcGetState s = .next
      { s with rspStatus := false
               rspData := match s.pcState with | .idle => 0#32 | .moving => 1#32 | .arrived => 2#32 | .error => 3#32 }

/-- R171 PC_HOMING: from every state the generator is stopped, QD_OFFSET takes QD_RAW, the target is 0 and the controller
IDLE; a QD_GET_COUNT afterwards answers 0. -/
def Obligations.PcHomingMakesHereZero : Prop :=
  (∀ a b c : Word, decode ⟨0x26#8, a, b, c⟩ = .ok .pcHoming) ∧
  ∀ s : State,
    exec .pcHoming s = .next
      { s with
        outFwd := false, outRev := false, pgLevel := false, pgState := .idle
        qdOffset := s.qdRaw, pcTarget := 0#32, pcState := .idle, rspStatus := false, rspData := 0#32 } ∧
    Answers (exec .pcHoming s) fun t => Answers (exec .qdGetCount t) fun u => u.rspData = 0#32

/-- R172 PC_ESTOP: from every state the generator is stopped and the controller is in ERROR; target and session registers
are kept. -/
def Obligations.PcEstopStopsAndEntersError : Prop :=
  (∀ a b c : Word, decode ⟨0x27#8, a, b, c⟩ = .ok .pcEstop) ∧
  ∀ s : State, exec .pcEstop s = .next
    { s with outFwd := false, outRev := false, pgLevel := false, pgState := .idle, pcState := .error
             rspStatus := false, rspData := 0#32 }

/-- R164 over all 23 commands: the controller's state after each command. -/
def Obligations.ControllerStateMachine : Prop :=
  ∀ (i : Instr) (s t : State), exec i s = .next t →
    match i with
    | .pcInit | .pcHoming => t.pcState = .idle
    | .pcSetTarget _ => t.pcState = .moving
    | .pcEstop => t.pcState = .error
    | .pcUpdate =>
        (s.pcState ≠ .moving → t = { s with rspStatus := false, rspData := 0#32 }) ∧
        (s.pcState = .moving → t.pcState =
          if (s.pcTarget.toInt - c2a s.params (s.qdRaw - s.qdOffset).toInt).natAbs < s.params.tolQ
          then .arrived else .moving)
    | _ => t.pcState = s.pcState

/-- R202 over steps: ERROR is entered by PC_ESTOP alone, PC_UPDATE does nothing in it, and only PC_SET_TARGET (to
MOVING), PC_HOMING, PC_INIT and reset (to IDLE) leave it. -/
def Obligations.ErrorIsEnteredAndLeftOnlyByCommand : Prop :=
  (∀ s t : State, step s = .next t → s.pcState ≠ .error → t.pcState = .error →
    s.takeEdge.1.rst = false ∧ s.takeEdge.1.cmd.op = 0x27#8) ∧
  (∀ s : State, s.pcState = .error → exec .pcUpdate s = .next { s with rspStatus := false, rspData := 0#32 }) ∧
  ∀ s t : State, step s = .next t → s.pcState = .error → t.pcState ≠ .error →
    ((s.takeEdge.1.rst = true ∨ s.takeEdge.1.cmd.op ∈ [0x20#8, 0x26#8]) ∧ t.pcState = .idle) ∨
    (s.takeEdge.1.rst = false ∧ s.takeEdge.1.cmd.op = 0x21#8 ∧ t.pcState = .moving)

/-- R173 (no timeout), over runs of the machine: while the count does not move and the error is not within tolerance,
any number of PC_UPDATE commands leaves the controller MOVING toward the same target with the same error. TOL_Q = 0 is
the case in which no error is ever within tolerance. -/
def Obligations.StalledActuatorIsPolledForever : Prop :=
  ∀ (s : State) (xs : List Sample), s.pcState = .moving → s.params.tolQ ≤ s.pcError.natAbs →
    Answers (runCommands (xs.map fun x => (.pcUpdate, x)) s) fun t =>
      t.pcState = .moving ∧ t.pcTarget = s.pcTarget ∧ t.pcError = s.pcError ∧ SameQd s t

/-- R227 (the spec derives it), each of its four cases as a run of two commands from MOVING with the error outside
tolerance: a PG_STOP or PG_INIT makes the next PC_UPDATE issue a new burst; a PG_START replaces the burst and a PC_UPDATE
that comes early waits for it; a PG_UPDATE advances the generator as the PC_UPDATE would; after PC_INIT a PC_UPDATE polls
nothing. -/
def Obligations.TwoDriversOfOneGenerator : Prop :=
  ∀ (s : State) (x y : Sample) (d : Direction) (n f : Word),
    s.pcState = .moving → s.params.tolQ ≤ s.pcError.natAbs →
    (∀ i ∈ [Instr.pgStop, Instr.pgInit],
      Answers (runCommands [(i, x), (.pcUpdate, y)] s) fun t =>
        t.pcState = .moving ∧ t.pgState = .running ∧ t.pgEmitted = 0#32 ∧ t.pgLastT = y.timeUs ∧
        t.outFwd = false ∧ t.outRev = false) ∧
    (n ≠ 0#32 → since x y < pgIntervalOf f.toNat →
      Answers (runCommands [(.pgStart d n f, x), (.pcUpdate, y)] s) fun t =>
        t.pcState = .moving ∧ t.pgState = .running ∧ t.pgRequested = n ∧ t.pgLastT = x.timeUs) ∧
    (∀ u, exec .pgUpdate (s.latch x) = .next u → u.pgState = .running → exec .pcUpdate (s.latch x) = .next u) ∧
    Answers (runCommands [(.pcInit, x), (.pcUpdate, y)] s) (fun t => SamePg s t ∧ t.pcState = .idle)

/-- R174's bound on PC_UPDATE commands under the ideal plant (the spec derives it). Premises P1, P2 and P4 are IdealRun,
P3 is the bound on TOL_Q. The model adds three premises that the spec's derivation uses without saying so: no burst is
running at the start (and both outputs are low, as invariant I3 has it), PPR <= K_ANGLE, and the current angle is not
saturated. Without them the bound can fail: a running burst may move away from the target, above K_ANGLE a target can
lie outside the range of the count, and a saturated angle hides the true distance. The spec's count of
bursts is not claimed, only its bound on commands. -/
def Obligations.ConvergesUnderTheIdealPlant : Prop :=
  ∀ (k : Nat) (s u : State), IdealRun k s u →
    s.pcState = .moving → s.pgState ≠ .running → s.outFwd = false → s.outRev = false →
    s.params.ppr ≤ 23592960 →
    s.qdLogical.natAbs * 23592960 < 2147483648 * s.params.ppr →
    (23592960 + s.params.ppr - 1) / s.params.ppr < s.params.tolQ →
    (a2cExact s.params s.pcError.natAbs / 1000 + 1) * 2001 ≤ (k : Int) →
    u.pcState = .arrived

/-- R175's case (the spec derives it): with one count per degree, a target half a degree above zero and TOL_Q at most
half a degree, every count angle misses the target by at least half a degree, so under the ideal plant of R174 no number
of PC_UPDATE commands ends the move. -/
def Obligations.OvershootCanRunForever : Prop :=
  ∀ (k : Nat) (s u : State), IdealRun k s u →
    s.pcState = .moving → s.params.ppr = 360 → s.pcTarget = 32768#32 → s.params.tolQ ≤ 32768 →
    u.pcState = .moving ∧ u.pcTarget = 32768#32

/-! ### The whole machine -/

/-- R38 at reset: State.reset meets I1 to I8. -/
def Obligations.ResetStateMeetsTheInvariants : Prop :=
  Inv State.reset

/-- R38: every step, from every state that meets I1 to I8, keeps them: a command, an illegal opcode or a reset. -/
def Obligations.EveryStepKeepsTheInvariants : Prop :=
  ∀ s t : State, Inv s → step s = .next t → Inv t

/-- R38, R200 over runs: from every state that meets the invariants, a run of any length goes on to its end and meets
them there, whatever the host presents and whatever is drawn. -/
def Obligations.EveryRunIsSafe : Prop :=
  ∀ (n : Nat) (s : State), Inv s → SafeRun n s

/-- R23 to R36: which commands write each register (PG_DIR: R135 lists PG_INIT, which R28 leaves out, and PC_UPDATE
starts a session through R132: log 15). -/
def Obligations.RegisterWriters : Prop :=
  ∀ (i : Instr) (s t : State), exec i s = .next t →
    (t.qdPrev ≠ s.qdPrev → i.opcode ∈ [0x01#8, 0x02#8]) ∧
    (t.qdRaw ≠ s.qdRaw → i.opcode ∈ [0x01#8, 0x02#8]) ∧
    (t.qdOffset ≠ s.qdOffset → i.opcode ∈ [0x01#8, 0x05#8, 0x06#8, 0x26#8]) ∧
    (t.pgState ≠ s.pgState → i.opcode ∈ [0x10#8, 0x11#8, 0x12#8, 0x13#8, 0x22#8, 0x26#8, 0x27#8]) ∧
    (t.pgDir ≠ s.pgDir → i.opcode ∈ [0x10#8, 0x11#8, 0x22#8]) ∧
    (t.pgEmitted ≠ s.pgEmitted → i.opcode ∈ [0x10#8, 0x11#8, 0x13#8, 0x22#8]) ∧
    (t.pgRequested ≠ s.pgRequested → i.opcode ∈ [0x10#8, 0x11#8, 0x22#8]) ∧
    (t.pgInterval ≠ s.pgInterval → i.opcode ∈ [0x10#8, 0x11#8, 0x22#8]) ∧
    (t.pgLevel ≠ s.pgLevel → i.opcode ∈ [0x10#8, 0x11#8, 0x12#8, 0x13#8, 0x22#8, 0x26#8, 0x27#8]) ∧
    (t.pgLastT ≠ s.pgLastT → i.opcode ∈ [0x10#8, 0x11#8, 0x13#8, 0x22#8]) ∧
    (t.outFwd ≠ s.outFwd → i.opcode ∈ [0x10#8, 0x11#8, 0x12#8, 0x13#8, 0x22#8, 0x26#8, 0x27#8]) ∧
    (t.outRev ≠ s.outRev → i.opcode ∈ [0x10#8, 0x11#8, 0x12#8, 0x13#8, 0x22#8, 0x26#8, 0x27#8]) ∧
    (t.pcState ≠ s.pcState → i.opcode ∈ [0x20#8, 0x21#8, 0x22#8, 0x26#8, 0x27#8]) ∧
    (t.pcTarget ≠ s.pcTarget → i.opcode ∈ [0x20#8, 0x21#8, 0x26#8])

/-- The frame of each component, over all commands: a decoder command leaves the generator and the controller as they
were, a generator command the decoder and the controller, a controller command QD_PREV and QD_RAW, a polling PC_UPDATE
all of the decoder and the target; no command writes the build parameters or the ports (R40, R55, R105, R135, R167). -/
def Obligations.ComponentFrames : Prop :=
  ∀ (i : Instr) (s t : State), exec i s = .next t →
    SamePorts s t ∧
    (i.opcode.toNat < 0x10 → SamePg s t ∧ SamePc s t) ∧
    (0x10 ≤ i.opcode.toNat → i.opcode.toNat < 0x20 → SameQd s t ∧ SamePc s t) ∧
    (0x20 ≤ i.opcode.toNat → t.qdPrev = s.qdPrev ∧ t.qdRaw = s.qdRaw) ∧
    (i = .pcUpdate → SameQd s t ∧ t.pcTarget = s.pcTarget)

/-- R40: the build parameters are fixed for the life of an instance: no step changes them. -/
def Obligations.BuildParametersAreFixed : Prop :=
  ∀ s t : State, step s = .next t → t.params = s.params

/-- R55: the ten pure commands have no side effect on state: only the response ports differ afterwards, and repeating
the command gives the same response. -/
def Obligations.PureCommandsOnlyRespond : Prop :=
  ∀ (i : Instr) (s : State),
    i.opcode ∈ [0x03#8, 0x04#8, 0x07#8, 0x08#8, 0x09#8, 0x14#8, 0x15#8, 0x23#8, 0x24#8, 0x25#8] →
    ∃ d : Word, exec i s = .next { s with rspStatus := false, rspData := d } ∧
      exec i { s with rspStatus := false, rspData := d } = .next { s with rspStatus := false, rspData := d }

/-- R63: a command that does not use an input ignores its value: only QD_INIT and QD_UPDATE depend on A and B, only
PG_START, PG_UPDATE and PC_UPDATE on now. -/
def Obligations.UnusedInputsNeverMatter : Prop :=
  ∀ (i : Instr) (s t : State) (x y : Sample), exec i (s.latch x) = .next t →
    (i.opcode ∈ [0x01#8, 0x02#8] → x.phaseA = y.phaseA ∧ x.phaseB = y.phaseB) →
    (i.opcode ∈ [0x11#8, 0x13#8, 0x22#8] → x.timeUs = y.timeUs) →
      exec i (s.latch y) = .next (t.latch y)

/-- R39: the six hidden registers are never returned: no command's response depends on any of them. -/
def Obligations.HiddenRegistersNeverRespond : Prop :=
  ∀ (i : Instr) (s : State) (p : BitVec 2) (d : Direction) (n k z : Word) (l : Bool) (t u : State),
    exec i s = .next t →
    exec i { s with qdPrev := p, pgDir := d, pgRequested := n, pgInterval := k, pgLevel := l, pgLastT := z } =
      .next u →
    u.rspStatus = t.rspStatus ∧ u.rspData = t.rspData
end

