-- ==== Sys2Proof/Laws/Arith.lean ====
section
/-! SUPPORT. What the arithmetic primitives of R12 give: their ranges, and each as the library's function. -/

namespace Sys2Proof.Machine

theorem wrap32_range (x : Int) : -2147483648 ≤ wrap32 x ∧ wrap32 x ≤ 2147483647 := by
  unfold wrap32; omega

theorem wrap32_emod (x : Int) : wrap32 x % 4294967296 = x % 4294967296 := by
  unfold wrap32; omega

theorem wrap32_of_range {x : Int} (h : -2147483648 ≤ x ∧ x ≤ 2147483647) : wrap32 x = x := by
  unfold wrap32; omega

/-- wrap32 is the library's balanced remainder. -/
theorem wrap32_eq_bmod (x : Int) : wrap32 x = x.bmod (2 ^ 32) := by
  simp only [wrap32, Int.bmod]
  omega

/-- The bit pattern forgets the wrap: writing wrap32 x or x gives the same register. -/
@[simp] theorem pattern32_wrap32 (x : Int) : pattern32 (wrap32 x) = pattern32 x := by
  apply BitVec.eq_of_toInt_eq
  rw [wrap32_eq_bmod]
  simp [BitVec.toInt_ofInt]

/-- A value in the s32 range survives being written to a register. -/
theorem s32_pattern32 {x : Int} (h : -2147483648 ≤ x ∧ x ≤ 2147483647) : s32 (pattern32 x) = x := by
  rw [s32, pattern32, BitVec.toInt_ofInt, ← wrap32_eq_bmod, wrap32_of_range h]

theorem s32_range (v : Word) : -2147483648 ≤ s32 v ∧ s32 v ≤ 2147483647 := by
  have h1 := BitVec.le_toInt v
  have h2 := BitVec.toInt_lt (x := v)
  simp only [s32]
  omega

/-- An s32 written back gives the same register. -/
@[simp] theorem pattern32_s32 (v : Word) : pattern32 (s32 v) = v :=
  BitVec.ofInt_toInt

theorem wrapu32_range (x : Int) : 0 ≤ wrapu32 x ∧ wrapu32 x ≤ 4294967295 := by
  unfold wrapu32; omega

theorem sat32_range (x : Int) : -2147483648 ≤ sat32 x ∧ sat32 x ≤ 2147483647 := by
  unfold sat32; split_ifs <;> omega

theorem sat32_of_range {x : Int} (h : -2147483648 ≤ x ∧ x ≤ 2147483647) : sat32 x = x := by
  unfold sat32; split_ifs <;> omega

theorem sat32_eq (x : Int) : sat32 x = max (-2147483648) (min 2147483647 x) := by
  unfold sat32; split_ifs <;> omega

theorem clamp_range {x lo hi : Int} (h : lo ≤ hi) : lo ≤ clamp x lo hi ∧ clamp x lo hi ≤ hi := by
  unfold clamp; split_ifs <;> omega

theorem clamp_of_range {x lo hi : Int} (h : lo ≤ x ∧ x ≤ hi) : clamp x lo hi = x := by
  unfold clamp; split_ifs <;> omega

theorem clamp_eq {x lo hi : Int} (h : lo ≤ hi) : clamp x lo hi = max lo (min hi x) := by
  unfold clamp; split_ifs <;> omega

theorem absInt_eq (x : Int) : absInt x = x.natAbs := by
  unfold absInt; split_ifs <;> omega

/-- The quotient rounded toward zero is the library's Int.tdiv. -/
theorem tdiv_eq_tdiv (x y : Int) : tdiv x y = Int.tdiv x y := by
  unfold tdiv floordiv
  split_ifs with h
  · exact (Int.tdiv_eq_ediv_of_nonneg h).symm
  · rw [← Int.tdiv_eq_ediv_of_nonneg (by omega), Int.neg_tdiv, Int.neg_neg]

/-- What the rounding does to a nonnegative dividend. -/
theorem tdiv_nonneg {x y : Int} (hx : 0 ≤ x) (hy : 0 < y) :
    0 ≤ tdiv x y ∧ tdiv x y * y ≤ x ∧ x < (tdiv x y + 1) * y := by
  have e : tdiv x y = x / y := by simp [tdiv, floordiv, hx]
  rw [e]
  refine ⟨Int.ediv_nonneg hx hy.le, Int.ediv_mul_le x hy.ne', ?_⟩
  exact Int.lt_ediv_add_one_mul_self x hy

/-- Rounding toward zero commutes with negation. -/
theorem tdiv_neg (x y : Int) : tdiv (-x) y = -tdiv x y := by
  rw [tdiv_eq_tdiv, tdiv_eq_tdiv, Int.neg_tdiv]

end Sys2Proof.Machine
end

