-- ==== Sys2Proof/Laws/State.lean ====
section
/-! SUPPORT. What each update of the state leaves in each field, one lemma per field and update, all true by rfl, so
that no later proof unfolds a record update. -/

namespace Sys2Proof.Machine.State

variable (s : State)

/-! `respond` (R11, R76) -/

@[simp] theorem respond_qdPrev (d : Word) : (s.respond d).qdPrev = s.qdPrev := rfl
@[simp] theorem respond_qdRaw (d : Word) : (s.respond d).qdRaw = s.qdRaw := rfl
@[simp] theorem respond_qdOffset (d : Word) : (s.respond d).qdOffset = s.qdOffset := rfl
@[simp] theorem respond_pgState (d : Word) : (s.respond d).pgState = s.pgState := rfl
@[simp] theorem respond_pgDir (d : Word) : (s.respond d).pgDir = s.pgDir := rfl
@[simp] theorem respond_pgEmitted (d : Word) : (s.respond d).pgEmitted = s.pgEmitted := rfl
@[simp] theorem respond_pgRequested (d : Word) : (s.respond d).pgRequested = s.pgRequested := rfl
@[simp] theorem respond_pgInterval (d : Word) : (s.respond d).pgInterval = s.pgInterval := rfl
@[simp] theorem respond_pgLevel (d : Word) : (s.respond d).pgLevel = s.pgLevel := rfl
@[simp] theorem respond_pgLastT (d : Word) : (s.respond d).pgLastT = s.pgLastT := rfl
@[simp] theorem respond_outFwd (d : Word) : (s.respond d).outFwd = s.outFwd := rfl
@[simp] theorem respond_outRev (d : Word) : (s.respond d).outRev = s.outRev := rfl
@[simp] theorem respond_pcState (d : Word) : (s.respond d).pcState = s.pcState := rfl
@[simp] theorem respond_pcTarget (d : Word) : (s.respond d).pcTarget = s.pcTarget := rfl
@[simp] theorem respond_rspStatus (d : Word) : (s.respond d).rspStatus = false := rfl
@[simp] theorem respond_rspData (d : Word) : (s.respond d).rspData = d := rfl
@[simp] theorem respond_params (d : Word) : (s.respond d).params = s.params := rfl
@[simp] theorem respond_sample (d : Word) : (s.respond d).sample = s.sample := rfl
@[simp] theorem respond_pending (d : Word) : (s.respond d).pending = s.pending := rfl
@[simp] theorem respond_drawIndex (d : Word) : (s.respond d).drawIndex = s.drawIndex := rfl

/-! `respondIllegal` (R74) -/

@[simp] theorem respondIllegal_qdPrev : (s.respondIllegal).qdPrev = s.qdPrev := rfl
@[simp] theorem respondIllegal_qdRaw : (s.respondIllegal).qdRaw = s.qdRaw := rfl
@[simp] theorem respondIllegal_qdOffset : (s.respondIllegal).qdOffset = s.qdOffset := rfl
@[simp] theorem respondIllegal_pgState : (s.respondIllegal).pgState = s.pgState := rfl
@[simp] theorem respondIllegal_pgDir : (s.respondIllegal).pgDir = s.pgDir := rfl
@[simp] theorem respondIllegal_pgEmitted : (s.respondIllegal).pgEmitted = s.pgEmitted := rfl
@[simp] theorem respondIllegal_pgRequested : (s.respondIllegal).pgRequested = s.pgRequested := rfl
@[simp] theorem respondIllegal_pgInterval : (s.respondIllegal).pgInterval = s.pgInterval := rfl
@[simp] theorem respondIllegal_pgLevel : (s.respondIllegal).pgLevel = s.pgLevel := rfl
@[simp] theorem respondIllegal_pgLastT : (s.respondIllegal).pgLastT = s.pgLastT := rfl
@[simp] theorem respondIllegal_outFwd : (s.respondIllegal).outFwd = s.outFwd := rfl
@[simp] theorem respondIllegal_outRev : (s.respondIllegal).outRev = s.outRev := rfl
@[simp] theorem respondIllegal_pcState : (s.respondIllegal).pcState = s.pcState := rfl
@[simp] theorem respondIllegal_pcTarget : (s.respondIllegal).pcTarget = s.pcTarget := rfl
@[simp] theorem respondIllegal_rspStatus : (s.respondIllegal).rspStatus = true := rfl
@[simp] theorem respondIllegal_rspData : (s.respondIllegal).rspData = 0#32 := rfl
@[simp] theorem respondIllegal_params : (s.respondIllegal).params = s.params := rfl
@[simp] theorem respondIllegal_sample : (s.respondIllegal).sample = s.sample := rfl
@[simp] theorem respondIllegal_pending : (s.respondIllegal).pending = s.pending := rfl
@[simp] theorem respondIllegal_drawIndex : (s.respondIllegal).drawIndex = s.drawIndex := rfl

/-! `latch` (R63) -/

@[simp] theorem latch_qdPrev (x : Sample) : (s.latch x).qdPrev = s.qdPrev := rfl
@[simp] theorem latch_qdRaw (x : Sample) : (s.latch x).qdRaw = s.qdRaw := rfl
@[simp] theorem latch_qdOffset (x : Sample) : (s.latch x).qdOffset = s.qdOffset := rfl
@[simp] theorem latch_pgState (x : Sample) : (s.latch x).pgState = s.pgState := rfl
@[simp] theorem latch_pgDir (x : Sample) : (s.latch x).pgDir = s.pgDir := rfl
@[simp] theorem latch_pgEmitted (x : Sample) : (s.latch x).pgEmitted = s.pgEmitted := rfl
@[simp] theorem latch_pgRequested (x : Sample) : (s.latch x).pgRequested = s.pgRequested := rfl
@[simp] theorem latch_pgInterval (x : Sample) : (s.latch x).pgInterval = s.pgInterval := rfl
@[simp] theorem latch_pgLevel (x : Sample) : (s.latch x).pgLevel = s.pgLevel := rfl
@[simp] theorem latch_pgLastT (x : Sample) : (s.latch x).pgLastT = s.pgLastT := rfl
@[simp] theorem latch_outFwd (x : Sample) : (s.latch x).outFwd = s.outFwd := rfl
@[simp] theorem latch_outRev (x : Sample) : (s.latch x).outRev = s.outRev := rfl
@[simp] theorem latch_pcState (x : Sample) : (s.latch x).pcState = s.pcState := rfl
@[simp] theorem latch_pcTarget (x : Sample) : (s.latch x).pcTarget = s.pcTarget := rfl
@[simp] theorem latch_rspStatus (x : Sample) : (s.latch x).rspStatus = s.rspStatus := rfl
@[simp] theorem latch_rspData (x : Sample) : (s.latch x).rspData = s.rspData := rfl
@[simp] theorem latch_params (x : Sample) : (s.latch x).params = s.params := rfl
@[simp] theorem latch_sample (x : Sample) : (s.latch x).sample = x := rfl
@[simp] theorem latch_pending (x : Sample) : (s.latch x).pending = s.pending := rfl
@[simp] theorem latch_drawIndex (x : Sample) : (s.latch x).drawIndex = s.drawIndex := rfl

/-! `qdZeroHere` (R109) -/

@[simp] theorem qdZeroHere_qdPrev : (s.qdZeroHere).qdPrev = s.qdPrev := rfl
@[simp] theorem qdZeroHere_qdRaw : (s.qdZeroHere).qdRaw = s.qdRaw := rfl
@[simp] theorem qdZeroHere_qdOffset : (s.qdZeroHere).qdOffset = s.qdRaw := rfl
@[simp] theorem qdZeroHere_pgState : (s.qdZeroHere).pgState = s.pgState := rfl
@[simp] theorem qdZeroHere_pgDir : (s.qdZeroHere).pgDir = s.pgDir := rfl
@[simp] theorem qdZeroHere_pgEmitted : (s.qdZeroHere).pgEmitted = s.pgEmitted := rfl
@[simp] theorem qdZeroHere_pgRequested : (s.qdZeroHere).pgRequested = s.pgRequested := rfl
@[simp] theorem qdZeroHere_pgInterval : (s.qdZeroHere).pgInterval = s.pgInterval := rfl
@[simp] theorem qdZeroHere_pgLevel : (s.qdZeroHere).pgLevel = s.pgLevel := rfl
@[simp] theorem qdZeroHere_pgLastT : (s.qdZeroHere).pgLastT = s.pgLastT := rfl
@[simp] theorem qdZeroHere_outFwd : (s.qdZeroHere).outFwd = s.outFwd := rfl
@[simp] theorem qdZeroHere_outRev : (s.qdZeroHere).outRev = s.outRev := rfl
@[simp] theorem qdZeroHere_pcState : (s.qdZeroHere).pcState = s.pcState := rfl
@[simp] theorem qdZeroHere_pcTarget : (s.qdZeroHere).pcTarget = s.pcTarget := rfl
@[simp] theorem qdZeroHere_rspStatus : (s.qdZeroHere).rspStatus = s.rspStatus := rfl
@[simp] theorem qdZeroHere_rspData : (s.qdZeroHere).rspData = s.rspData := rfl
@[simp] theorem qdZeroHere_params : (s.qdZeroHere).params = s.params := rfl
@[simp] theorem qdZeroHere_sample : (s.qdZeroHere).sample = s.sample := rfl
@[simp] theorem qdZeroHere_pending : (s.qdZeroHere).pending = s.pending := rfl
@[simp] theorem qdZeroHere_drawIndex : (s.qdZeroHere).drawIndex = s.drawIndex := rfl

/-! `pgStop` (R131) -/

@[simp] theorem pgStop_qdPrev : (s.pgStop).qdPrev = s.qdPrev := rfl
@[simp] theorem pgStop_qdRaw : (s.pgStop).qdRaw = s.qdRaw := rfl
@[simp] theorem pgStop_qdOffset : (s.pgStop).qdOffset = s.qdOffset := rfl
@[simp] theorem pgStop_pgState : (s.pgStop).pgState = .idle := rfl
@[simp] theorem pgStop_pgDir : (s.pgStop).pgDir = s.pgDir := rfl
@[simp] theorem pgStop_pgEmitted : (s.pgStop).pgEmitted = s.pgEmitted := rfl
@[simp] theorem pgStop_pgRequested : (s.pgStop).pgRequested = s.pgRequested := rfl
@[simp] theorem pgStop_pgInterval : (s.pgStop).pgInterval = s.pgInterval := rfl
@[simp] theorem pgStop_pgLevel : (s.pgStop).pgLevel = false := rfl
@[simp] theorem pgStop_pgLastT : (s.pgStop).pgLastT = s.pgLastT := rfl
@[simp] theorem pgStop_outFwd : (s.pgStop).outFwd = false := rfl
@[simp] theorem pgStop_outRev : (s.pgStop).outRev = false := rfl
@[simp] theorem pgStop_pcState : (s.pgStop).pcState = s.pcState := rfl
@[simp] theorem pgStop_pcTarget : (s.pgStop).pcTarget = s.pcTarget := rfl
@[simp] theorem pgStop_rspStatus : (s.pgStop).rspStatus = s.rspStatus := rfl
@[simp] theorem pgStop_rspData : (s.pgStop).rspData = s.rspData := rfl
@[simp] theorem pgStop_params : (s.pgStop).params = s.params := rfl
@[simp] theorem pgStop_sample : (s.pgStop).sample = s.sample := rfl
@[simp] theorem pgStop_pending : (s.pgStop).pending = s.pending := rfl
@[simp] theorem pgStop_drawIndex : (s.pgStop).drawIndex = s.drawIndex := rfl

/-! `pgStart` (R132) -/

@[simp] theorem pgStart_qdPrev (d : Direction) (n : Word) (f : Nat) (now : Word) : (s.pgStart d n f now).qdPrev = s.qdPrev := rfl
@[simp] theorem pgStart_qdRaw (d : Direction) (n : Word) (f : Nat) (now : Word) : (s.pgStart d n f now).qdRaw = s.qdRaw := rfl
@[simp] theorem pgStart_qdOffset (d : Direction) (n : Word) (f : Nat) (now : Word) : (s.pgStart d n f now).qdOffset = s.qdOffset := rfl
@[simp] theorem pgStart_pgState (d : Direction) (n : Word) (f : Nat) (now : Word) : (s.pgStart d n f now).pgState = if n = 0#32 then .complete else .running := rfl
@[simp] theorem pgStart_pgDir (d : Direction) (n : Word) (f : Nat) (now : Word) : (s.pgStart d n f now).pgDir = d := rfl
@[simp] theorem pgStart_pgEmitted (d : Direction) (n : Word) (f : Nat) (now : Word) : (s.pgStart d n f now).pgEmitted = 0#32 := rfl
@[simp] theorem pgStart_pgRequested (d : Direction) (n : Word) (f : Nat) (now : Word) : (s.pgStart d n f now).pgRequested = n := rfl
@[simp] theorem pgStart_pgInterval (d : Direction) (n : Word) (f : Nat) (now : Word) : (s.pgStart d n f now).pgInterval = BitVec.ofNat 32 (pgIntervalOf f) := rfl
@[simp] theorem pgStart_pgLevel (d : Direction) (n : Word) (f : Nat) (now : Word) : (s.pgStart d n f now).pgLevel = false := rfl
@[simp] theorem pgStart_pgLastT (d : Direction) (n : Word) (f : Nat) (now : Word) : (s.pgStart d n f now).pgLastT = now := rfl
@[simp] theorem pgStart_outFwd (d : Direction) (n : Word) (f : Nat) (now : Word) : (s.pgStart d n f now).outFwd = false := rfl
@[simp] theorem pgStart_outRev (d : Direction) (n : Word) (f : Nat) (now : Word) : (s.pgStart d n f now).outRev = false := rfl
@[simp] theorem pgStart_pcState (d : Direction) (n : Word) (f : Nat) (now : Word) : (s.pgStart d n f now).pcState = s.pcState := rfl
@[simp] theorem pgStart_pcTarget (d : Direction) (n : Word) (f : Nat) (now : Word) : (s.pgStart d n f now).pcTarget = s.pcTarget := rfl
@[simp] theorem pgStart_rspStatus (d : Direction) (n : Word) (f : Nat) (now : Word) : (s.pgStart d n f now).rspStatus = s.rspStatus := rfl
@[simp] theorem pgStart_rspData (d : Direction) (n : Word) (f : Nat) (now : Word) : (s.pgStart d n f now).rspData = s.rspData := rfl
@[simp] theorem pgStart_params (d : Direction) (n : Word) (f : Nat) (now : Word) : (s.pgStart d n f now).params = s.params := rfl
@[simp] theorem pgStart_sample (d : Direction) (n : Word) (f : Nat) (now : Word) : (s.pgStart d n f now).sample = s.sample := rfl
@[simp] theorem pgStart_pending (d : Direction) (n : Word) (f : Nat) (now : Word) : (s.pgStart d n f now).pending = s.pending := rfl
@[simp] theorem pgStart_drawIndex (d : Direction) (n : Word) (f : Nat) (now : Word) : (s.pgStart d n f now).drawIndex = s.drawIndex := rfl

/-! `resetRegs` (R43, R220) -/

@[simp] theorem resetRegs_qdPrev : (s.resetRegs).qdPrev = s.phaseNow := rfl
@[simp] theorem resetRegs_qdRaw : (s.resetRegs).qdRaw = 0#32 := rfl
@[simp] theorem resetRegs_qdOffset : (s.resetRegs).qdOffset = 0#32 := rfl
@[simp] theorem resetRegs_pgState : (s.resetRegs).pgState = .idle := rfl
@[simp] theorem resetRegs_pgDir : (s.resetRegs).pgDir = .fwd := rfl
@[simp] theorem resetRegs_pgEmitted : (s.resetRegs).pgEmitted = 0#32 := rfl
@[simp] theorem resetRegs_pgRequested : (s.resetRegs).pgRequested = 0#32 := rfl
@[simp] theorem resetRegs_pgInterval : (s.resetRegs).pgInterval = 1#32 := rfl
@[simp] theorem resetRegs_pgLevel : (s.resetRegs).pgLevel = false := rfl
@[simp] theorem resetRegs_pgLastT : (s.resetRegs).pgLastT = 0#32 := rfl
@[simp] theorem resetRegs_outFwd : (s.resetRegs).outFwd = false := rfl
@[simp] theorem resetRegs_outRev : (s.resetRegs).outRev = false := rfl
@[simp] theorem resetRegs_pcState : (s.resetRegs).pcState = .idle := rfl
@[simp] theorem resetRegs_pcTarget : (s.resetRegs).pcTarget = 0#32 := rfl
@[simp] theorem resetRegs_rspStatus : (s.resetRegs).rspStatus = false := rfl
@[simp] theorem resetRegs_rspData : (s.resetRegs).rspData = 0#32 := rfl
@[simp] theorem resetRegs_params : (s.resetRegs).params = s.params := rfl
@[simp] theorem resetRegs_sample : (s.resetRegs).sample = s.sample := rfl
@[simp] theorem resetRegs_pending : (s.resetRegs).pending = s.pending := rfl
@[simp] theorem resetRegs_drawIndex : (s.resetRegs).drawIndex = s.drawIndex := rfl

end Sys2Proof.Machine.State
end

