-- ==== Sys2Proof/Laws/Ops.lean ====
section
/-! SUPPORT. One lemma per shared operation that says once what it can do. -/

namespace Sys2Proof.Machine

/-! ### Decoder -/

/-- R51: every entry of the ROM is -1, 0 or +1. -/
theorem lut_values (i : BitVec 4) : lut i = -1 ∨ lut i = 0 ∨ lut i = 1 := by
  revert i; decide

/-- R26: the logical count is the wrapped difference, as a register holds it. -/
theorem pattern32_qdLogical (s : State) : pattern32 s.qdLogical = s.qdRaw - s.qdOffset := by
  rw [State.qdLogical, pattern32_wrap32]
  apply BitVec.eq_of_toInt_eq
  simp [BitVec.toInt_ofInt, BitVec.toInt_sub]

theorem qdLogical_eq (s : State) : s.qdLogical = (s.qdRaw - s.qdOffset).toInt := by
  rw [State.qdLogical, wrap32_eq_bmod, BitVec.toInt_sub]

/-- R106: the wrapped sum is the register sum. -/
theorem pattern32_add (v : Word) (d : Int) : pattern32 (s32 v + d) = v + BitVec.ofInt 32 d := by
  apply BitVec.eq_of_toInt_eq
  simp [BitVec.toInt_ofInt, BitVec.toInt_add]

theorem ppr_pos (p : Params) : (0 : Int) < p.ppr := by
  have := p.ok; omega

theorem kAngle_pos : (0 : Int) < Config.kAngle := by decide

theorem c2a_range (p : Params) (c : Int) : -2147483648 ≤ c2a p c ∧ c2a p c ≤ 2147483647 :=
  sat32_range _

theorem a2c_range (p : Params) (a : Int) : -2147483648 ≤ a2c p a ∧ a2c p a ≤ 2147483647 :=
  sat32_range _

/-! ### Generator -/

/-- R130: the interval is in [1, 500000]. -/
theorem pgIntervalOf_range (f : Nat) : 1 ≤ pgIntervalOf f ∧ pgIntervalOf f ≤ 500000 := by
  unfold pgIntervalOf
  split_ifs with h
  · omega
  · have h2 : 1000000 / (2 * f) ≤ 1000000 / 2 := Nat.div_le_div_left (by omega) (by omega)
    omega

/-- The interval as PG_INTERVAL holds it. -/
@[simp] theorem pgIntervalOf_toNat (f : Nat) : (BitVec.ofNat 32 (pgIntervalOf f)).toNat = pgIntervalOf f := by
  have := pgIntervalOf_range f
  rw [BitVec.toNat_ofNat]
  omega

/-- R208: the elapsed time is the register difference. -/
theorem elapsed_eq (s : State) (now : Word) : s.elapsed now = ((now - s.pgLastT).toNat : Int) := by
  have h1 := now.isLt
  have h2 := s.pgLastT.isLt
  simp only [State.elapsed, wrapu32, u32, BitVec.toNat_sub]
  omega

theorem drive_fwd {s : State} (h : s.pgDir = .fwd) (v : Bool) : s.drive v = { s with outFwd := v } := by
  simp [State.drive, h]

theorem drive_rev {s : State} (h : s.pgDir = .rev) (v : Bool) : s.drive v = { s with outRev := v } := by
  simp [State.drive, h]

/-- R133: everything the polling step can do. A poll that finds the generator not running, or comes before the interval
is over, changes nothing; else there is exactly one transition. -/
theorem pgUpdate_cases (s : State) (now : Word) :
    (s.pgState ≠ .running ∧ s.pgUpdate now = s) ∨
    (s.pgState = .running ∧ (now - s.pgLastT).toNat < u32 s.pgInterval ∧ s.pgUpdate now = s) ∨
    (s.pgState = .running ∧ u32 s.pgInterval ≤ (now - s.pgLastT).toNat ∧ s.pgLevel = false ∧
      s.pgUpdate now = { s.drive true with pgLevel := true, pgLastT := now }) ∨
    (s.pgState = .running ∧ u32 s.pgInterval ≤ (now - s.pgLastT).toNat ∧ s.pgLevel = true ∧
      u32 (s.pgEmitted + 1#32) < u32 s.pgRequested ∧
      s.pgUpdate now =
        { s.drive false with pgLevel := false, pgEmitted := s.pgEmitted + 1#32, pgLastT := now }) ∨
    (s.pgState = .running ∧ u32 s.pgInterval ≤ (now - s.pgLastT).toNat ∧ s.pgLevel = true ∧
      u32 s.pgRequested ≤ u32 (s.pgEmitted + 1#32) ∧
      s.pgUpdate now =
        { s with outFwd := false, outRev := false, pgLevel := false, pgState := .complete,
                 pgEmitted := s.pgEmitted + 1#32, pgLastT := now }) := by
  by_cases hr : s.pgState = .running
  swap
  · exact .inl ⟨hr, by simp [State.pgUpdate, hr]⟩
  by_cases he : (now - s.pgLastT).toNat < u32 s.pgInterval
  · have hc : s.elapsed now < (u32 s.pgInterval : Int) := by rw [elapsed_eq]; exact_mod_cast he
    exact .inr (.inl ⟨hr, he, by simp [State.pgUpdate, hr, hc]⟩)
  have he' : u32 s.pgInterval ≤ (now - s.pgLastT).toNat := by omega
  have hc : ¬ s.elapsed now < (u32 s.pgInterval : Int) := by rw [elapsed_eq]; exact_mod_cast he
  by_cases hl : s.pgLevel = true
  swap
  · refine .inr (.inr (.inl ⟨hr, he', by simpa using hl, ?_⟩))
    simp only [State.pgUpdate, hr, hc, hl, State.pgRise, ne_eq, not_true_eq_false, if_false,
      Bool.false_eq_true]
  have hu : s.pgUpdate now = s.pgFall now := by
    simp only [State.pgUpdate, hr, hc, hl, ne_eq, not_true_eq_false, if_false, if_true]
  by_cases hq : u32 s.pgRequested ≤ u32 (s.pgEmitted + 1#32)
  · refine .inr (.inr (.inr (.inr ⟨hr, he', hl, hq, ?_⟩)))
    rw [hu]
    cases hd : s.pgDir <;> simp only [State.pgFall, State.drive, hd, State.pgStop, ge_iff_le, hq, if_true]
  · refine .inr (.inr (.inr (.inl ⟨hr, he', hl, by omega, ?_⟩)))
    rw [hu]
    cases hd : s.pgDir <;> simp only [State.pgFall, State.drive, hd, ge_iff_le, hq, if_false]

/-- R133: what a poll never writes. -/
theorem pgUpdate_frame (s : State) (now : Word) :
    (s.pgUpdate now).qdPrev = s.qdPrev ∧ (s.pgUpdate now).qdRaw = s.qdRaw ∧
    (s.pgUpdate now).qdOffset = s.qdOffset ∧ (s.pgUpdate now).pgDir = s.pgDir ∧
    (s.pgUpdate now).pgRequested = s.pgRequested ∧ (s.pgUpdate now).pgInterval = s.pgInterval ∧
    (s.pgUpdate now).pcState = s.pcState ∧ (s.pgUpdate now).pcTarget = s.pcTarget ∧
    (s.pgUpdate now).rspStatus = s.rspStatus ∧ (s.pgUpdate now).rspData = s.rspData ∧
    (s.pgUpdate now).params = s.params ∧ (s.pgUpdate now).sample = s.sample ∧
    (s.pgUpdate now).pending = s.pending ∧ (s.pgUpdate now).drawIndex = s.drawIndex := by
  rcases pgUpdate_cases s now with ⟨-, h⟩ | ⟨-, -, h⟩ | ⟨-, -, -, h⟩ | ⟨-, -, -, -, h⟩ | ⟨-, -, -, -, h⟩ <;> rw [h] <;>
    (cases hd : s.pgDir <;> simp [State.drive, hd])

/-- R164, R167: the error a PC_UPDATE computes does not depend on the poll it makes. -/
theorem pcError_pgUpdate (s : State) (now : Word) : (s.pgUpdate now).pcError = s.pcError := by
  obtain ⟨-, h1, h2, -, -, -, -, h3, -, -, h4, -⟩ := pgUpdate_frame s now
  simp only [State.pcError, State.pcCurrent, State.qdLogical, h1, h2, h3, h4]

/-! ### Controller -/

/-- R163: the burst is in [10, 1000]. -/
theorem pcBurst_range (p : Params) (e : Int) : 10 ≤ pcBurst p e ∧ pcBurst p e ≤ 1000 :=
  clamp_range (by decide)

theorem u32_pcBurst (p : Params) (e : Int) : (u32 (pattern32 (pcBurst p e)) : Int) = pcBurst p e := by
  have := pcBurst_range p e
  simp only [u32, pattern32, BitVec.toNat_ofInt]
  omega

/-- R167: everything a PC_UPDATE can do. -/
theorem execPcUpdate_cases (s : State) :
    (s.pcState ≠ .moving ∧ execPcUpdate s = .next (s.respond 0#32)) ∨
    (s.pcState = .moving ∧ pcInTol s.params s.pcError = true ∧
      execPcUpdate s = .next ({ (s.pgUpdate s.now).pgStop with pcState := .arrived }.respond 0#32)) ∨
    (s.pcState = .moving ∧ pcInTol s.params s.pcError = false ∧ (s.pgUpdate s.now).pgState = .running ∧
      execPcUpdate s = .next ((s.pgUpdate s.now).respond 0#32)) ∨
    (s.pcState = .moving ∧ pcInTol s.params s.pcError = false ∧ (s.pgUpdate s.now).pgState ≠ .running ∧
      execPcUpdate s = .next (((s.pgUpdate s.now).pgStart (pcDir s.pcError)
        (pattern32 (pcBurst s.params s.pcError)) Config.pulseFreqHz s.now).respond 0#32)) := by
  have hp : (s.pgUpdate s.now).params = s.params := (pgUpdate_frame s s.now).2.2.2.2.2.2.2.2.2.2.1
  by_cases hm : s.pcState = .moving
  swap
  · exact .inl ⟨hm, by simp [execPcUpdate, hm]⟩
  cases ht : pcInTol s.params s.pcError
  · by_cases hr : (s.pgUpdate s.now).pgState = .running
    · exact .inr (.inr (.inl ⟨hm, rfl, hr, by simp [execPcUpdate, hm, pcError_pgUpdate, hp, ht, hr]⟩))
    · exact .inr (.inr (.inr ⟨hm, rfl, hr, by simp [execPcUpdate, hm, pcError_pgUpdate, hp, ht, hr]⟩))
  · exact .inr (.inl ⟨hm, rfl, by simp [execPcUpdate, hm, pcError_pgUpdate, hp, ht]⟩)

end Sys2Proof.Machine
end

