-- ==== Sys2Proof/Laws/Generator.lean ====
section
/-! SUPPORT. A poll of the generator depends on the generator alone (R133). -/

namespace Sys2Proof.Machine

open Sys2Proof.Safety

/-- R133: two states whose generators agree have generators that agree after a poll at the same time. -/
theorem pgUpdate_samePg {s t : State} (h : SamePg s t) (now : Word) : SamePg (s.pgUpdate now) (t.pgUpdate now) := by
  obtain ⟨h1, h2, h3, h4, h5, h6, h7, h8, h9⟩ := h
  have he : t.elapsed now = s.elapsed now := by simp only [State.elapsed, h7]
  simp only [State.pgUpdate, he, h1, h5, h6]
  split_ifs with ha hb hc
  · exact ⟨h1, h2, h3, h4, h5, h6, h7, h8, h9⟩
  · exact ⟨h1, h2, h3, h4, h5, h6, h7, h8, h9⟩
  · cases hd : s.pgDir <;> rw [hd] at h2 <;> simp only [State.pgFall, State.drive, hd, h2, h3, h4] <;>
      split_ifs <;> simp [SamePg, State.pgStop, *]
  · cases hd : s.pgDir <;> rw [hd] at h2 <;> simp only [State.pgRise, State.drive, hd, h2] <;> simp [SamePg, *]

/-- R133: a poll neither reads nor writes the edges to come. -/
theorem pgUpdate_withPending (s : State) (now : Word) (p : List Edge) :
    { s with pending := p }.pgUpdate now = { s.pgUpdate now with pending := p } := by
  have h := pgUpdate_samePg (s := s) (t := { s with pending := p }) ⟨rfl, rfl, rfl, rfl, rfl, rfl, rfl, rfl, rfl⟩ now
  have f := pgUpdate_frame s now
  have g := pgUpdate_frame { s with pending := p } now
  ext <;> simp only [h, f, g]

/-- R133: a poll neither reads nor writes the latched inputs. -/
theorem pgUpdate_withSample (s : State) (now : Word) (x : Sample) :
    { s with sample := x }.pgUpdate now = { s.pgUpdate now with sample := x } := by
  have h := pgUpdate_samePg (s := s) (t := { s with sample := x }) ⟨rfl, rfl, rfl, rfl, rfl, rfl, rfl, rfl, rfl⟩ now
  have f := pgUpdate_frame s now
  have g := pgUpdate_frame { s with sample := x } now
  ext <;> simp only [h, f, g]

/-- R133: a poll neither reads nor writes the response ports. -/
theorem pgUpdate_withResponse (s : State) (now : Word) (b : Bool) (d : Word) :
    { s with rspStatus := b, rspData := d }.pgUpdate now = { s.pgUpdate now with rspStatus := b, rspData := d } := by
  have h := pgUpdate_samePg (s := s) (t := { s with rspStatus := b, rspData := d }) ⟨rfl, rfl, rfl, rfl, rfl, rfl, rfl, rfl, rfl⟩ now
  have f := pgUpdate_frame s now
  have g := pgUpdate_frame { s with rspStatus := b, rspData := d } now
  ext <;> simp only [h, f, g]

end Sys2Proof.Machine
end

