-- ==== Sys2Proof/Laws/Fetch.lean ====
section
/-! SUPPORT. Which edge a step takes, and how a run over presented commands unrolls. -/

namespace Sys2Proof.Machine

@[simp] theorem firstActive_nil : firstActive [] = none := rfl

theorem firstActive_cons_active {e : Edge} (h : e.active = true) (es : List Edge) :
    firstActive (e :: es) = some (e, es) := by simp [firstActive, h]

theorem firstActive_cons_idle {e : Edge} (h : e.active = false) (es : List Edge) :
    firstActive (e :: es) = firstActive es := by simp [firstActive, h]

theorem takeEdge_of_some {s : State} {e : Edge} {rest : List Edge} (h : firstActive s.pending = some (e, rest)) :
    s.takeEdge = (e, { s with pending := rest }) := by simp [State.takeEdge, h]

theorem takeEdge_of_none {s : State} (h : firstActive s.pending = none) :
    s.takeEdge = (drawnEdge s.drawIndex, { s with pending := [], drawIndex := s.drawIndex + 1 }) := by
  simp [State.takeEdge, h]

/-- Taking an edge writes no register, no response port and no parameter. -/
theorem takeEdge_frame (s : State) :
    ∃ p n, s.takeEdge.2 = { s with pending := p, drawIndex := n } := by
  cases h : firstActive s.pending with
  | none => exact ⟨[], s.drawIndex + 1, by rw [takeEdge_of_none h]⟩
  | some x => exact ⟨x.2, s.drawIndex, by rw [takeEdge_of_some (e := x.1) (rest := x.2) h]⟩

/-- The edge a step takes is never idle. -/
theorem takeEdge_active (s : State) : s.takeEdge.1.active = true := by
  have key : ∀ (l : List Edge) e rest, firstActive l = some (e, rest) → e.active = true := by
    intro l
    induction l with
    | nil => intro e rest h; simp at h
    | cons a l ih =>
      intro e rest h
      cases ha : a.active
      · rw [firstActive_cons_idle ha] at h; exact ih e rest h
      · rw [firstActive_cons_active ha] at h
        simp only [Option.some.injEq, Prod.mk.injEq] at h
        exact h.1 ▸ ha
  cases h : firstActive s.pending with
  | none => rw [takeEdge_of_none h]; simp [drawnEdge, Edge.active]
  | some x => rw [takeEdge_of_some (e := x.1) (rest := x.2) h]; exact key _ _ _ h

/-- Everything a step can do: a reset, a command, or an illegal opcode, on a state that differs from s in the input
ports alone. -/
theorem step_cases (s : State) :
    ∃ s1 x, (∃ p n, s1 = { s with pending := p, drawIndex := n, sample := x }) ∧
      (step s = .next s1.resetRegs ∨ (∃ i, step s = exec i s1) ∨ step s = .next s1.respondIllegal) := by
  obtain ⟨p, n, h⟩ := takeEdge_frame s
  have ha := takeEdge_active s
  refine ⟨s.takeEdge.2.latch s.takeEdge.1.sample, s.takeEdge.1.sample, ⟨p, n, by rw [h]; rfl⟩, ?_⟩
  simp only [step, clockEdge]
  by_cases hr : s.takeEdge.1.rst = true
  · exact .inl (by simp [hr])
  · have hv : s.takeEdge.1.cmdValid = true := by simpa [Edge.active, hr] using ha
    right
    simp only [hr, hv, runCommand]
    cases decode s.takeEdge.1.cmd with
    | ok i => exact .inl ⟨i, rfl⟩
    | error r => exact .inr rfl

/-- A command presented at the head of the ports is the command of the next step. -/
theorem step_commandEdge {s : State} {w : CommandWord} {x : Sample} {rest : List Edge}
    (h : s.pending = commandEdge w x :: rest) :
    step s = runCommand w { s with pending := rest, sample := x } := by
  have hf : firstActive s.pending = some (commandEdge w x, rest) := by
    rw [h]; exact firstActive_cons_active rfl rest
  simp [step, takeEdge_of_some hf, clockEdge, commandEdge, State.latch]

/-! ### Runs over presented commands -/

/-- R58: a command neither reads nor writes the edges to come. -/
theorem exec_withPending {i : Instr} {s t : State} (h : exec i s = .next t) (p : List Edge) :
    exec i { s with pending := p } = .next { t with pending := p } := by
  cases i
  case pcUpdate =>
    have hn : { s with pending := p }.now = s.now := rfl
    have hu := pgUpdate_withPending s s.now p
    have h1 := execPcUpdate_cases s
    have h2 := execPcUpdate_cases { s with pending := p }
    rw [hn, hu] at h2
    have he : ({ s with pending := p } : State).pcError = s.pcError := rfl
    rw [he] at h2
    simp only at h2
    simp only [exec] at h ⊢
    rcases h1 with ⟨a, e⟩ | ⟨a, b, e⟩ | ⟨a, b, c, e⟩ | ⟨a, b, c, e⟩ <;>
      rcases h2 with ⟨a', e'⟩ | ⟨a', b', e'⟩ | ⟨a', b', c', e'⟩ | ⟨a', b', c', e'⟩ <;>
      first
        | (exfalso; simp_all; done)
        | (rw [e] at h; rw [e']; cases h; rfl)
  case pgUpdate =>
    simp only [exec, execPgUpdate, Host.Outcome.next.injEq] at h ⊢
    have hn : { s with pending := p }.now = s.now := rfl
    rw [hn, pgUpdate_withPending, ← h]
    rfl
  all_goals (cases h; rfl)

open Sys2Proof.Safety

@[simp] theorem runCommands_nil (s : State) : runCommands [] s = .next s := rfl

/-- A run of any machine starts with one step. -/
theorem run_succ (M : Host.Core) {a b : M.State} (h : M.step a = .next b) (k : Nat) :
    M.run (k + 1) a = M.run k b := by
  rw [Host.Core.run, h]

@[simp] theorem steps_zero (s : State) : steps 0 s = .next s := rfl

theorem steps_succ {s t : State} (h : step s = .next t) (k : Nat) : steps (k + 1) s = steps k t :=
  run_succ Sys2Proof.core h k

/-- A run over presented commands: the first command's meaning, then the rest of the run. -/
theorem runCommands_cons {i : Instr} {x : Sample} {s t : State} (hd : decode (encode i) = .ok i)
    (h : exec i (s.latch x) = .next t) (cs : List (Instr × Sample)) :
    runCommands ((i, x) :: cs) s = runCommands cs t := by
  have hs : step (present ((i, x) :: cs) s) = .next (present cs t) := by
    rw [step_commandEdge (rest := cs.map (fun c => commandEdge (encode c.1) c.2) ++ s.pending) rfl]
    simp only [runCommand, hd]
    have hp : t.pending = s.pending := by
      have h2 := exec_withPending h (s.latch x).pending
      have h3 : ({ s.latch x with pending := (s.latch x).pending } : State) = s.latch x := rfl
      rw [h3, h, Host.Outcome.next.injEq] at h2
      have h4 := congrArg State.pending h2
      exact h4
    have h1 := exec_withPending h (cs.map (fun c => commandEdge (encode c.1) c.2) ++ s.pending)
    simpa [present, hp, State.latch] using h1
  exact steps_succ hs _

end Sys2Proof.Machine
end

