-- ==== Sys2Proof/Laws/PerInstr.lean ====
section
/-! SUPPORT. Statements made once per command: the word the encoder writes is one that R79 calls well formed. -/

namespace Sys2Proof.Laws.EncodeWellFormed

/-- R73, R79: the encoded word has a legal opcode, and every bit its command ignores is 0. -/
def Statement (i : Instr) : Prop := (encode i).wf = true

/-- A whole field is kept by the mask of all its bits. -/
theorem and_full (v : Word) : v &&& 0xFFFFFFFF#32 = v :=
  BitVec.and_allOnes

theorem qdInit : Statement .qdInit := rfl
theorem qdUpdate : Statement .qdUpdate := rfl
theorem qdGetRaw : Statement .qdGetRaw := rfl
theorem qdGetCount : Statement .qdGetCount := rfl
theorem qdReset : Statement .qdReset := rfl
theorem qdSetOffset (value : Word) : Statement (.qdSetOffset value) := by
  simp [Statement, CommandWord.wf, CommandWord.canonical, encode, Instr.opcode, legalOpcode, usedBits, and_full]
theorem qdCountToAngle (count : Word) : Statement (.qdCountToAngle count) := by
  simp [Statement, CommandWord.wf, CommandWord.canonical, encode, Instr.opcode, legalOpcode, usedBits, and_full]
theorem qdAngleToCount (angle : Word) : Statement (.qdAngleToCount angle) := by
  simp [Statement, CommandWord.wf, CommandWord.canonical, encode, Instr.opcode, legalOpcode, usedBits, and_full]
theorem qdGetAngle : Statement .qdGetAngle := rfl
theorem pgInit : Statement .pgInit := rfl
theorem pgStart (dir : Direction) (pulseCount frequencyHz : Word) :
    Statement (.pgStart dir pulseCount frequencyHz) := by
  cases dir <;>
    simp [Statement, CommandWord.wf, CommandWord.canonical, encode, Instr.opcode, legalOpcode, usedBits, Direction.toArg, and_full]
theorem pgStop : Statement .pgStop := rfl
theorem pgUpdate : Statement .pgUpdate := rfl
theorem pgGetState : Statement .pgGetState := rfl
theorem pgGetCount : Statement .pgGetCount := rfl
theorem pcInit : Statement .pcInit := rfl
theorem pcSetTarget (angle : Word) : Statement (.pcSetTarget angle) := by
  simp [Statement, CommandWord.wf, CommandWord.canonical, encode, Instr.opcode, legalOpcode, usedBits, and_full]
theorem pcUpdate : Statement .pcUpdate := rfl
theorem pcGetTarget : Statement .pcGetTarget := rfl
theorem pcGetCurrent : Statement .pcGetCurrent := rfl
theorem pcGetState : Statement .pcGetState := rfl
theorem pcHoming : Statement .pcHoming := rfl
theorem pcEstop : Statement .pcEstop := rfl

end Sys2Proof.Laws.EncodeWellFormed
end

