-- ==== Sys2Proof/Tests/Slice0.lean ====
section
/-! SUPPORT. The model's own tests: ill-formed terms are refused, words written out from spec/30_encoding.md R73 and R79
decode to their commands, single steps give what spec/95_test_vectors.md gives, and every statement that has hypotheses
has a witness that meets them. Expected values come from spec/95_test_vectors.md (its id is in each docstring). -/

namespace Sys2Proof.Tests

open Sys2Proof Sys2Proof.Machine Sys2Proof.Safety

/-! ### Well-formedness -/

/-- The test configuration of D30. -/
def rawD30 : RawConfig := ⟨360, 2949120, 65536, 100000, 10, 1000⟩

theorem test_config_d30 : rawD30.wf = true := by decide
theorem test_config_largest : (RawConfig.mk 2147483647 2147483647 2147483647 4294967295 1 4294967295).wf = true := by
  decide
theorem test_refuses_ppr_zero : { rawD30 with ppr := 0 }.wf = false := by decide
theorem test_refuses_ppr_large : { rawD30 with ppr := 2147483648 }.wf = false := by decide
theorem test_refuses_max_angle_large : { rawD30 with maxAngleQ := 2147483648 }.wf = false := by decide
theorem test_refuses_tolerance_large : { rawD30 with tolQ := 2147483648 }.wf = false := by decide
theorem test_refuses_frequency_zero : { rawD30 with pulseFreqHz := 0 }.wf = false := by decide
theorem test_refuses_frequency_large : { rawD30 with pulseFreqHz := 4294967296 }.wf = false := by decide
theorem test_refuses_min_burst_zero : { rawD30 with minBurst := 0 }.wf = false := by decide
theorem test_refuses_min_above_max : { rawD30 with minBurst := 1001 }.wf = false := by decide
theorem test_refuses_max_burst_large : { rawD30 with maxBurst := 4294967296 }.wf = false := by decide
theorem test_make_refuses_ppr_zero : Params.make? 0 2949120 65536 = none := by decide
theorem test_make_accepts : Params.make? 1 0 0 = some ⟨1, 0, 0, by decide⟩ := by decide
theorem test_word_wf : (CommandWord.mk 0x11#8 1#32 0xA#32 0x186A0#32).wf = true := by decide
theorem test_refuses_illegal_opcode : (CommandWord.mk 0x0A#8 0#32 0#32 0#32).wf = false := by decide
theorem test_refuses_unused_field : (CommandWord.mk 0x03#8 1#32 0#32 0#32).wf = false := by decide
theorem test_refuses_direction_bits : (CommandWord.mk 0x11#8 2#32 0#32 0#32).wf = false := by decide

/-! ### Decoding: each constructor's word, written out from R73 and R79 -/

theorem test_decode_decoder :
    decode ⟨0b00000001#8, 0#32, 0#32, 0#32⟩ = .ok .qdInit ∧
    decode ⟨0b00000010#8, 0#32, 0#32, 0#32⟩ = .ok .qdUpdate ∧
    decode ⟨0b00000011#8, 0#32, 0#32, 0#32⟩ = .ok .qdGetRaw ∧
    decode ⟨0b00000100#8, 0#32, 0#32, 0#32⟩ = .ok .qdGetCount ∧
    decode ⟨0b00000101#8, 0#32, 0#32, 0#32⟩ = .ok .qdReset ∧
    decode ⟨0b00000110#8, 0xFFFFFFFE#32, 0#32, 0#32⟩ = .ok (.qdSetOffset (-2#32)) ∧
    decode ⟨0b00000111#8, 0xFFFFFFD3#32, 0#32, 0#32⟩ = .ok (.qdCountToAngle (-45#32)) ∧
    decode ⟨0b00001000#8, 0x002D0000#32, 0#32, 0#32⟩ = .ok (.qdAngleToCount 2949120#32) ∧
    decode ⟨0b00001001#8, 0#32, 0#32, 0#32⟩ = .ok .qdGetAngle := by
  refine ⟨?_, ?_, ?_, ?_, ?_, ?_, ?_, ?_, ?_⟩ <;> rfl

theorem test_decode_generator :
    decode ⟨0b00010000#8, 0#32, 0#32, 0#32⟩ = .ok .pgInit ∧
    decode ⟨0b00010001#8, 0#32, 0x0000000A#32, 0x000186A0#32⟩ = .ok (.pgStart .fwd 10#32 100000#32) ∧
    decode ⟨0b00010010#8, 0#32, 0#32, 0#32⟩ = .ok .pgStop ∧
    decode ⟨0b00010011#8, 0#32, 0#32, 0#32⟩ = .ok .pgUpdate ∧
    decode ⟨0b00010100#8, 0#32, 0#32, 0#32⟩ = .ok .pgGetState ∧
    decode ⟨0b00010101#8, 0#32, 0#32, 0#32⟩ = .ok .pgGetCount := by
  refine ⟨?_, ?_, ?_, ?_, ?_, ?_⟩ <;> rfl

theorem test_decode_controller :
    decode ⟨0b00100000#8, 0#32, 0#32, 0#32⟩ = .ok .pcInit ∧
    decode ⟨0b00100001#8, 0xFFD30000#32, 0#32, 0#32⟩ = .ok (.pcSetTarget (-2949120#32)) ∧
    decode ⟨0b00100010#8, 0#32, 0#32, 0#32⟩ = .ok .pcUpdate ∧
    decode ⟨0b00100011#8, 0#32, 0#32, 0#32⟩ = .ok .pcGetTarget ∧
    decode ⟨0b00100100#8, 0#32, 0#32, 0#32⟩ = .ok .pcGetCurrent ∧
    decode ⟨0b00100101#8, 0#32, 0#32, 0#32⟩ = .ok .pcGetState ∧
    decode ⟨0b00100110#8, 0#32, 0#32, 0#32⟩ = .ok .pcHoming ∧
    decode ⟨0b00100111#8, 0#32, 0#32, 0#32⟩ = .ok .pcEstop := by
  refine ⟨?_, ?_, ?_, ?_, ?_, ?_, ?_, ?_⟩ <;> rfl

/-- V7: only bit 0 of a direction is read. -/
theorem test_decode_direction_bit :
    decode ⟨0x11#8, 0xFFFFFFFE#32, 0#32, 0#32⟩ = .ok (.pgStart .fwd 0#32 0#32) ∧
    decode ⟨0x11#8, 0x00000003#32, 0#32, 0#32⟩ = .ok (.pgStart .rev 0#32 0#32) := ⟨rfl, rfl⟩

/-- V7: illegal opcodes are rejected by name. -/
theorem test_decode_illegal :
    decode ⟨0x00#8, 0#32, 0#32, 0#32⟩ = .error (.illegalOpcode 0x00#8) ∧
    decode ⟨0x0A#8, 0#32, 0#32, 0#32⟩ = .error (.illegalOpcode 0x0A#8) ∧
    decode ⟨0x16#8, 0#32, 0#32, 0#32⟩ = .error (.illegalOpcode 0x16#8) ∧
    decode ⟨0x28#8, 0#32, 0#32, 0#32⟩ = .error (.illegalOpcode 0x28#8) ∧
    decode ⟨0xFF#8, 0#32, 0#32, 0#32⟩ = .error (.illegalOpcode 0xFF#8) := ⟨rfl, rfl, rfl, rfl, rfl⟩

/-- The table's numbering: the opcode in bits 7 to 0, the operands from bit 8 on (log 9). -/
theorem test_table_word :
    decodeTableWord 8 0x22 = some .pcUpdate ∧ decodeTableWord 8 0x0A = none ∧
    decodeTableWord 40 0xFFD3000021 = some (.pcSetTarget 0xFFD30000#32) ∧
    decodeTableWord 104 0x000186A00000000A0000000111 = some (.pgStart .rev 10#32 100000#32) ∧
    decodeTableWord 8 0xFFD3000021 = some (.pcSetTarget 0#32) := by
  refine ⟨?_, ?_, ?_, ?_, ?_⟩ <;> decide

/-! ### Single steps -/

/-- D30's parameters. -/
def d30 : Params := ⟨360, 2949120, 65536, by decide⟩

/-- The second parameter set of the vectors: PPR = 1000. -/
def ppr1000 : Params := ⟨1000, 2949120, 65536, by decide⟩

/-- The reset state of spec/95_test_vectors.md's programs: A = B = 0, D30's parameters. -/
def start : State :=
  { State.reset with qdPrev := 0#2, params := d30, sample := ⟨false, false, 0#32⟩ }

/-- A session of the given direction with its line high: RUNNING, interval 5, last transition at 0. -/
def highSession (d : Direction) (emitted requested : Word) : State :=
  { start with
    pgState := .running, pgDir := d, pgLevel := true, pgEmitted := emitted, pgRequested := requested
    pgInterval := 5#32, outFwd := decide (d = .fwd), outRev := decide (d = .rev) }

/-- MOVING to the target T at count c. -/
def movingTo (T c : Word) : State := { start with pcState := .moving, pcTarget := T, qdRaw := c }

/-- The inputs A, B and now. -/
def inputs (a b : Bool) (t : Word) : Sample := ⟨a, b, t⟩

/-- The state after one step that accepts the word w with the inputs x. -/
def after (w : CommandWord) (x : Sample) (s : State) : Option State :=
  match step { s with pending := [commandEdge w x] } with
  | .next t => some t
  | .fault _ => none
  | .refused _ => none

/-- The word of a command that reads no operand. -/
def bare (op : Opcode) : CommandWord := ⟨op, 0#32, 0#32, 0#32⟩

/-- V2. -/
theorem test_qdInit :
    (after (bare 0x01#8) (inputs true true 0#32) { start with qdRaw := 57#32, qdOffset := 7#32 }).map
      (fun t => (t.qdPrev, t.qdRaw, t.qdOffset)) = some (3#2, 0#32, 0#32) := by decide

/-- V1: index 2, a forward step. -/
theorem test_qdUpdate_forward :
    (after (bare 0x02#8) (inputs true false 0#32) { start with qdRaw := 5#32 }).map
      (fun t => (t.qdRaw, t.qdPrev)) = some (6#32, 2#2) := by decide

/-- V1: the wrap below. -/
theorem test_qdUpdate_wraps :
    (after (bare 0x02#8) (inputs false true 0#32) { start with qdRaw := 0x80000000#32 }).map
      (fun t => (t.qdRaw, t.qdPrev)) = some (0x7FFFFFFF#32, 1#2) := by decide

/-- V7: ignored operands. -/
theorem test_qdGetRaw :
    (after ⟨0x03#8, 0xFFFFFFFF#32, 0xFFFFFFFF#32, 0xFFFFFFFF#32⟩ (inputs true false 9#32)
      { start with qdRaw := 0xFFFFFFFF#32 }).map (fun t => (t.rspStatus, t.rspData)) =
      some (false, 0xFFFFFFFF#32) := by decide

/-- V1. -/
theorem test_qdGetCount_wraps :
    (after (bare 0x04#8) (inputs false false 0#32)
      { start with qdRaw := 0x7FFFFFFF#32, qdOffset := 0xFFFFFFFF#32 }).map (·.rspData) =
      some 0x80000000#32 := by decide

/-- V2. -/
theorem test_qdReset :
    (after (bare 0x05#8) (inputs false false 0#32) { start with qdRaw := -17#32 }).map
      (fun t => (t.qdOffset, t.qdRaw, t.rspData)) = some (-17#32, -17#32, 0#32) := by decide

/-- V2. -/
theorem test_qdSetOffset :
    (after ⟨0x06#8, 40#32, 0#32, 0#32⟩ (inputs false false 0#32) { start with qdRaw := 100#32 }).map
      (fun t => (t.qdOffset, t.qdRaw)) = some (40#32, 100#32) := by decide

/-- V3: PPR = 360. -/
theorem test_qdCountToAngle :
    (after ⟨0x07#8, -45#32, 0#32, 0#32⟩ (inputs false false 0#32) start).map (·.rspData) =
      some 0xFFD30000#32 := by decide

/-- V3: PPR = 1000, truncation toward zero. -/
theorem test_qdCountToAngle_truncates :
    (after ⟨0x07#8, -1#32, 0#32, 0#32⟩ (inputs false false 0#32) { start with params := ppr1000 }).map
      (·.rspData) = some (-23592#32) := by decide

/-- V3: PPR = 1000. -/
theorem test_qdAngleToCount :
    (after ⟨0x08#8, -65536#32, 0#32, 0#32⟩ (inputs false false 0#32) { start with params := ppr1000 }).map
      (·.rspData) = some (-2#32) := by decide

/-- V3: PPR = 2^31 - 1, saturated. -/
theorem test_qdAngleToCount_saturates :
    (after ⟨0x08#8, 0x7FFFFFFF#32, 0#32, 0#32⟩ (inputs false false 0#32)
      { start with params := ⟨2147483647, 0, 0, by decide⟩ }).map (·.rspData) = some 0x7FFFFFFF#32 := by decide

/-- V2. -/
theorem test_qdGetAngle :
    (after (bare 0x09#8) (inputs false false 0#32) { start with qdRaw := 12#32, qdOffset := 2#32 }).map
      (·.rspData) = some 655360#32 := by decide

/-- V5. -/
theorem test_pgInit :
    (after (bare 0x10#8) (inputs false false 0#32) (highSession .rev 4#32 9#32)).map
      (fun t => (t.pgState, t.outRev, t.pgEmitted, t.pgRequested, t.pgDir, t.pgInterval)) =
      some (.idle, false, 0#32, 0#32, .fwd, 1#32) := by decide

/-- V5: a start over a running session. -/
theorem test_pgStart :
    (after ⟨0x11#8, 0#32, 5#32, 1000#32⟩ (inputs false false 9#32) (highSession .rev 4#32 9#32)).map
      (fun t => (t.outRev, t.pgDir, t.pgEmitted, t.pgRequested, t.pgInterval, t.pgLastT)) =
      some (false, .fwd, 0#32, 5#32, 500#32, 9#32) := by decide

/-- V5: a zero-length burst. -/
theorem test_pgStart_zero :
    (after ⟨0x11#8, 1#32, 0#32, 100000#32⟩ (inputs false false 50#32) start).map
      (fun t => (t.pgState, t.pgEmitted, t.pgRequested, t.pgDir, t.pgLastT)) =
      some (.complete, 0#32, 0#32, .rev, 50#32) := by decide

/-- V5. -/
theorem test_pgStop :
    (after (bare 0x12#8) (inputs false false 0#32) (highSession .fwd 3#32 9#32)).map
      (fun t => (t.pgState, t.outFwd, t.pgLevel, t.pgEmitted)) = some (.idle, false, false, 3#32) := by decide

/-- V5: the elapsed time wraps. -/
theorem test_pgUpdate_rises :
    (after (bare 0x13#8) (inputs false false 3#32)
      { start with pgState := .running, pgRequested := 1#32, pgInterval := 5#32, pgLastT := 0xFFFFFFFE#32 }).map
      (fun t => (t.outFwd, t.outRev, t.pgLevel, t.pgLastT)) = some (true, false, true, 3#32) := by decide

/-- V5, S1's last transition. -/
theorem test_pgUpdate_completes :
    (after (bare 0x13#8) (inputs false false 5#32) (highSession .fwd 1#32 2#32)).map
      (fun t => (t.pgState, t.outFwd, t.pgLevel, t.pgEmitted, t.pgLastT)) =
      some (.complete, false, false, 2#32, 5#32) := by decide

/-- V5. -/
theorem test_pgGetState :
    (after (bare 0x14#8) (inputs false false 0#32) { start with pgState := .complete }).map (·.rspData) =
      some 2#32 := by decide

/-- V5. -/
theorem test_pgGetCount :
    (after (bare 0x15#8) (inputs false false 0#32) { start with pgEmitted := 2#32 }).map (·.rspData) =
      some 2#32 := by decide

/-- V6: a running generator stays running. -/
theorem test_pcInit :
    (after (bare 0x20#8) (inputs false false 0#32)
      { highSession .fwd 3#32 9#32 with pcState := .moving, pcTarget := 2949120#32 }).map
      (fun t => (t.pcTarget, t.pcState, t.pgState, t.outFwd)) = some (0#32, .idle, .running, true) := by decide

/-- V6: -60 degrees clamps to -45. -/
theorem test_pcSetTarget :
    (after ⟨0x21#8, 0xFFC40000#32, 0#32, 0#32⟩ (inputs false false 0#32) { start with pcState := .error }).map
      (fun t => (t.pcTarget, t.pcState)) = some (0xFFD30000#32, .moving) := by decide

/-- V6: 2045 degrees of error clamp to 1000 pulses. -/
theorem test_pcUpdate_bursts :
    (after (bare 0x22#8) (inputs false false 0#32) (movingTo 2949120#32 (-2000#32))).map
      (fun t => (t.pgState, t.pgDir, t.pgRequested, t.pgInterval, t.pcState)) =
      some (.running, .fwd, 1000#32, 5#32, .moving) := by decide

/-- V6: the last falling edge and the next burst in one command. -/
theorem test_pcUpdate_reissues :
    (after (bare 0x22#8) (inputs false false 7#32)
      { highSession .fwd 9#32 10#32 with pcState := .moving, pcTarget := 196608#32 }).map
      (fun t => (t.pgState, t.pgEmitted, t.pgRequested, t.pgLastT, t.outFwd)) =
      some (.running, 0#32, 10#32, 7#32, false) := by decide

/-- V6. -/
theorem test_pcGetTarget :
    (after (bare 0x23#8) (inputs false false 0#32) (movingTo 0xFFD30000#32 0#32)).map (·.rspData) =
      some 0xFFD30000#32 := by decide

/-- V2. -/
theorem test_pcGetCurrent :
    (after (bare 0x24#8) (inputs true true 0#32) { start with qdRaw := 3#32 }).map
      (fun t => (t.rspData, t.qdPrev)) = some (196608#32, 0#2) := by decide

/-- V6. -/
theorem test_pcGetState :
    (after (bare 0x25#8) (inputs false false 0#32) { start with pcState := .error }).map (·.rspData) =
      some 3#32 := by decide

/-- V6. -/
theorem test_pcHoming :
    (after (bare 0x26#8) (inputs false false 0#32)
      { highSession .fwd 3#32 9#32 with pcState := .error, qdRaw := 250#32, pcTarget := 65536#32 }).map
      (fun t => (t.qdOffset, t.pcTarget, t.pcState, t.pgState, t.outFwd)) =
      some (250#32, 0#32, .idle, .idle, false) := by decide

/-- V6. -/
theorem test_pcEstop :
    (after (bare 0x27#8) (inputs false false 0#32)
      { highSession .rev 3#32 9#32 with pcState := .moving, pcTarget := 65536#32 }).map
      (fun t => (t.pcState, t.outRev, t.pgState, t.pcTarget, t.pgEmitted)) =
      some (.error, false, .idle, 65536#32, 3#32) := by decide

/-- V7: an illegal opcode. -/
theorem test_illegal_opcode :
    (after ⟨0x0A#8, 1#32, 2#32, 3#32⟩ (inputs true true 9#32) { start with qdRaw := 5#32, rspData := 7#32 }).map
      (fun t => (t.rspStatus, t.rspData, t.qdRaw, t.qdPrev)) = some (true, 0#32, 5#32, 0#2) := by decide

/-- V7: reset and a QD_SET_OFFSET 5 at one edge. -/
theorem test_reset_wins :
    clockEdge ⟨true, true, ⟨0x06#8, 5#32, 0#32, 0#32⟩, inputs true false 0#32⟩ { start with qdRaw := 9#32 } =
      .next { start with qdPrev := 2#2, sample := inputs true false 0#32 } := rfl

/-- A step runs the command that withFetchWord places, from the reset state. -/
theorem test_withFetchWord :
    step (State.reset.withFetchWord 8 0x14) = .next { State.reset with rspData := 0#32 } ∧
    step (State.reset.withFetchWord 8 0x27) = .next { State.reset with pcState := .error } := ⟨rfl, rfl⟩

/-! ### Witnesses: every statement with hypotheses has a state and operands that meet them -/

/-- Any n polls of the ideal plant exist, from every state. -/
theorem idealRun_exists (n : Nat) (s : State) : ∃ u, IdealRun n s u := by
  induction n generalizing s with
  | zero => exact ⟨s, .done s⟩
  | succ n ih =>
    have hx : ∀ x, ∃ t, exec .pcUpdate (s.latch x) = .next t := fun x => by
      rcases execPcUpdate_cases (s.latch x) with ⟨-, e⟩ | ⟨-, -, e⟩ | ⟨-, -, -, e⟩ | ⟨-, -, -, e⟩ <;> exact ⟨_, e⟩
    obtain ⟨t, ht⟩ := hx (inputs false false (s.pgLastT + s.pgInterval))
    obtain ⟨u, hu⟩ := ih (idealPlant s t)
    refine ⟨u, .poll _ (fun _ => ?_) ht hu⟩
    have h : s.pgLastT + s.pgInterval - s.pgLastT = s.pgInterval := by bv_omega
    simp only [inputs, h, Nat.le_refl]

theorem witness_OpcodeMapSelectsTheCommand : decode (bare 0x27#8) = .ok .pcEstop := rfl

theorem witness_IllegalOpcodeOnlyAnswersStatusOne :
    (∀ i, decode (bare 0x00#8) ≠ .ok i) ∧ (∀ i, decode (bare 0x0F#8) ≠ .ok i) ∧
    (∀ i, decode (bare 0x1F#8) ≠ .ok i) ∧ ∀ i, decode (bare 0x28#8) ≠ .ok i :=
  ⟨nofun, nofun, nofun, nofun⟩

theorem witness_IgnoredOperandBitsNeverMatter :
    let w : CommandWord := ⟨0x11#8, 1#32, 5#32, 6#32⟩
    let v : CommandWord := ⟨0x11#8, 0xFFFFFFFF#32, 5#32, 6#32⟩
    let w' : CommandWord := ⟨0x21#8, 5#32, 0#32, 0#32⟩
    let v' : CommandWord := ⟨0x21#8, 5#32, 1#32, 2#32⟩
    w ≠ v ∧ w.op = v.op ∧ (w.arg0.getLsbD 0 = v.arg0.getLsbD 0 ∧ w.arg1 = v.arg1 ∧ w.arg2 = v.arg2) ∧
      w' ≠ v' ∧ w'.op = v'.op ∧ w'.arg0 = v'.arg0 := by decide

/-- An idle edge, then an edge with a command. -/
def idleThenCommand : List Edge := [⟨false, false, bare 0x01#8, inputs true true 3#32⟩,
  commandEdge (bare 0x02#8) (inputs true false 4#32)]

theorem witness_StepRunsTheAcceptedCommand :
    let e : Edge := commandEdge (bare 0x02#8) (inputs true false 4#32)
    let d : Edge := ⟨false, false, bare 0x01#8, inputs true true 3#32⟩
    (∀ x ∈ [d], x.rst = false ∧ x.cmdValid = false) ∧ (e.rst = true ∨ e.cmdValid = true) ∧
    { start with pending := idleThenCommand }.pending = [d] ++ e :: [] ∧
    e.rst = false ∧ decode e.cmd = .ok .qdUpdate := by
  refine ⟨by decide, by decide, rfl, rfl, rfl⟩

theorem witness_StepDrawsUnknownInputs :
    ∀ e ∈ { start with pending := [⟨false, false, bare 0x01#8, inputs true true 3#32⟩] }.pending,
      e.rst = false ∧ e.cmdValid = false := by decide

theorem witness_ResetEdgeWinsAndEqualsTheInits :
    (Edge.mk true true (bare 0x06#8) (inputs true false 0#32)).rst = true := rfl

theorem witness_QdUpdateIgnoresNoise :
    { start with sample := inputs false false 0#32 }.phaseNow = start.qdPrev ∧
    { start with sample := inputs true true 0#32 }.phaseNow = start.qdPrev ^^^ 3#2 := by decide

/-- Forward from 00 and reverse from 10: the four samples of each cycle. -/
theorem witness_UndersamplingMiscounts :
    (0#2, 2#2, 3#2, 1#2, (1 : Int)) ∈ [(0#2, 2#2, 3#2, 1#2, (1 : Int))] ∧ start.qdPrev = 0#2 ∧
    { start with sample := inputs true false 0#32 }.phaseNow = 2#2 ∧
    { start with sample := inputs true true 0#32 }.phaseNow = 3#2 ∧
    { start with sample := inputs false true 0#32 }.phaseNow = 1#2 ∧
    { start with sample := inputs false false 0#32 }.phaseNow = 0#2 := by decide

theorem witness_QdUpdateSequencesSumTheTable : start.qdPrev = 0#2 := rfl

/-- The largest count that does not saturate at PPR = 1 (V3), and the count 0. -/
theorem witness_CountToAngleResult :
    let s : State := { start with params := ⟨1, 0, 0, by decide⟩ }
    (91#32 : Word).toInt.natAbs * 23592960 < 2147483648 * s.params.ppr ∧ (0#32 : Word) = 0#32 := by decide

/-- The largest angle below one count at PPR = 1000 (V3). -/
theorem witness_AngleToCountResult :
    let s : State := { start with params := ppr1000 }
    (23592#32 : Word).toInt.natAbs * s.params.ppr < 23592960 := by decide

/-- PPR = 1000: one degree, and the most negative angle; and the largest PPR that never saturates. -/
theorem witness_AngleRoundTripLosesLessThanOneCount :
    let x : Word := 65536#32
    let y : Word := 0x80000000#32
    (Params.mk 23592960 0 0 (by decide)).ppr ≤ 23592960 ∧
    (-2147483648 ≤ Int.tdiv (x.toInt * ppr1000.ppr) 23592960 ∧ Int.tdiv (x.toInt * ppr1000.ppr) 23592960 ≤ 2147483647 ∧
      0 ≤ x.toInt) ∧
    (-2147483648 ≤ Int.tdiv (y.toInt * ppr1000.ppr) 23592960 ∧ Int.tdiv (y.toInt * ppr1000.ppr) 23592960 ≤ 2147483647 ∧
      y.toInt ≤ 0) := by decide

/-- The boundary frequencies 0, 500001, 1 and 500000. -/
theorem witness_HalfCycleInterval :
    (0#32 : Word).toNat = 0 ∧ 500001 ≤ (500001#32 : Word).toNat ∧
    (1 ≤ (1#32 : Word).toNat ∧ (1#32 : Word).toNat ≤ 500000) ∧
    (1 ≤ (500000#32 : Word).toNat ∧ (500000#32 : Word).toNat ≤ 500000) := by decide

/-- A session of one pulse with its line low, the poll at time t, last transition at 0, interval 5. -/
def lowSession (t : Word) : State :=
  { start with pgState := .running, pgRequested := 1#32, pgInterval := 5#32, sample := inputs false false t }

/-- Not due at 4; due at 5, low; due at 5, high, one pulse short and at the last pulse. -/
theorem witness_PgUpdateMakesOneTransition :
    let due (s : State) : Prop := s.pgState = .running ∧ s.pgInterval.toNat ≤ (s.sample.timeUs - s.pgLastT).toNat
    let a : State := { highSession .rev 7#32 9#32 with sample := inputs false false 5#32 }
    let b : State := { highSession .fwd 8#32 9#32 with sample := inputs false false 5#32 }
    ¬ due (lowSession 4#32) ∧ (due (lowSession 5#32) ∧ (lowSession 5#32).pgLevel = false) ∧
    (due a ∧ a.pgLevel = true ∧ a.pgEmitted.toNat + 1 < a.pgRequested.toNat) ∧
    (due b ∧ b.pgLevel = true ∧ b.pgRequested.toNat ≤ b.pgEmitted.toNat + 1 ∧ b.pgEmitted.toNat + 1 < 4294967296) := by
  decide

/-- start meets the invariants: the premise of every statement that assumes them. -/
theorem inv_start : Inv start := by
  constructor <;> decide

/-- So does a session with its line high, wherever the last pulse is near. -/
theorem inv_highSession : Inv (highSession .rev 4#32 9#32) ∧ Inv (highSession .fwd 8#32 9#32) := by
  constructor <;> constructor <;> decide

/-- The count falls: outside RUNNING by a start, and from the invariants by PG_INIT, PG_START and a PC_UPDATE whose
poll ends a burst. -/
theorem witness_PgReads :
    let r := highSession .fwd 8#32 9#32
    let m : State := { r with pcState := .moving, pcTarget := 196608#32, sample := inputs false false 5#32 }
    let c : State := { start with pgState := .complete, pgEmitted := 9#32, pgRequested := 9#32 }
    (Answers (exec (.pgStart .rev 2#32 7#32) c) (fun t => t.pgEmitted ≠ c.pgEmitted) ∧ c.pgState ≠ .running) ∧
    (Answers (exec .pgInit r) (fun t => t.pgEmitted.toNat < r.pgEmitted.toNat) ∧
      Answers (exec (.pgStart .rev 2#32 7#32) r) (fun t => t.pgEmitted.toNat < r.pgEmitted.toNat) ∧ Inv r) ∧
    (Answers (exec .pcUpdate m) (fun t => t.pgEmitted.toNat < m.pgEmitted.toNat) ∧ Inv m) :=
  ⟨⟨⟨_, rfl, by decide⟩, by decide⟩, ⟨⟨_, rfl, by decide⟩, ⟨_, rfl, by decide⟩, inv_highSession.2⟩,
    ⟨_, rfl, by decide⟩, by constructor <;> decide⟩

/-- Polls not due, due on a low line, and due on a high one at the last pulse and before it; a PC_UPDATE that arrives,
one that waits and one that issues a burst. -/
theorem witness_GeneratorStateMachine :
    let a : State := { highSession .rev 4#32 9#32 with sample := inputs false false 5#32 }
    let b : State := { highSession .fwd 8#32 9#32 with sample := inputs false false 5#32 }
    let c : State := { highSession .fwd 8#32 9#32 with pcState := .moving, pcTarget := 65536#32 }
    Answers (exec .pgUpdate start) (fun _ => start.pgState ≠ .running) ∧
    Answers (exec .pgUpdate (lowSession 4#32)) (fun _ =>
      (lowSession 4#32).pgState = .running ∧ ¬ (lowSession 4#32).pgInterval.toNat ≤ 4) ∧
    Answers (exec .pgUpdate (lowSession 5#32)) (fun t => (lowSession 5#32).pgLevel = false ∧ t.outFwd = true) ∧
    (Answers (exec .pgUpdate a) (fun t => t.pgState = .running) ∧ a.pgLevel = true ∧ Inv a) ∧
    (Answers (exec .pgUpdate b) (fun t => t.pgState = .complete) ∧ b.pgLevel = true ∧ Inv b) ∧
    Answers (exec .pcUpdate (movingTo 0#32 0#32)) (fun t => t.pcState = .arrived) ∧
    (Answers (exec .pcUpdate c) (fun t => c.pcState = .moving ∧ t.pcState ≠ .arrived) ∧
      Answers (exec .pgUpdate c) fun u => u.pgState = .running) ∧
    Answers (exec .pcUpdate (movingTo 196608#32 0#32)) (fun t => t.pcState ≠ .arrived) ∧
    Answers (exec .pgUpdate (movingTo 196608#32 0#32)) (fun u => u.pgState ≠ .running) :=
  ⟨⟨_, rfl, by decide⟩, ⟨_, rfl, by decide⟩, ⟨_, rfl, by decide⟩,
    ⟨⟨_, rfl, by decide⟩, by decide, by constructor <;> decide⟩,
    ⟨⟨_, rfl, by decide⟩, by decide, by constructor <;> decide⟩, ⟨_, rfl, by decide⟩,
    ⟨⟨_, rfl, by decide⟩, _, rfl, by decide⟩, ⟨_, rfl, by decide⟩, ⟨_, rfl, by decide⟩⟩

/-- S1 with one pulse: a start at 1000, polls at 1005 and 1010. -/
theorem witness_BurstEmitsExactlyTheRequestedPulses :
    let x := inputs false false 1000#32
    let ys := [inputs false false 1005#32, inputs false false 1010#32]
    (1#32 : Word) ≠ 0#32 ∧ ys.length = 2 * (1#32 : Word).toNat ∧
    ∀ (j : Nat) (h : j < ys.length), pgIntervalOf 100000 ≤ since ((x :: ys)[j]'(by simp; omega)) ys[j] := by
  decide

theorem witness_TransitionAtTheFirstDuePoll :
    let s := lowSession 0#32
    s.pgState = .running ∧
    (∀ y ∈ [inputs false false 3#32, inputs false false 4#32], (y.timeUs - s.pgLastT).toNat < s.pgInterval.toNat) ∧
    s.pgInterval.toNat ≤ ((inputs false false 5#32).timeUs - s.pgLastT).toNat := by decide

/-- Both inclusive bounds of the target. -/
theorem witness_PcSetTargetClampsAndMoves :
    (-(d30.maxAngleQ : Int) ≤ (2949120#32 : Word).toInt ∧ (2949120#32 : Word).toInt ≤ d30.maxAngleQ) ∧
    (-(d30.maxAngleQ : Int) ≤ (-2949120#32 : Word).toInt ∧ (-2949120#32 : Word).toInt ≤ d30.maxAngleQ) := by decide

/-- Not MOVING; within tolerance by one unit (V6: 65535); at the tolerance with a burst running, and with none. -/
theorem witness_PcUpdateTurnsTheLoop :
    start.pcState ≠ .moving ∧
    ((movingTo 65535#32 0#32).pcState = .moving ∧ (movingTo 65535#32 0#32).pcError.natAbs < d30.tolQ ∧
      Answers (exec .pgUpdate (movingTo 65535#32 0#32)) fun _ => True) ∧
    (let s : State := { highSession .fwd 1#32 9#32 with pcState := .moving, pcTarget := 65536#32 }
     s.pcState = .moving ∧ s.params.tolQ ≤ s.pcError.natAbs ∧
      Answers (exec .pgUpdate s) fun u => u.pgState = .running) ∧
    (let s := movingTo 65536#32 0#32
     s.pcState = .moving ∧ s.params.tolQ ≤ s.pcError.natAbs ∧
      Answers (exec .pgUpdate s) fun u => u.pgState ≠ .running) :=
  ⟨by decide, ⟨rfl, by decide, _, rfl, trivial⟩, ⟨rfl, by decide, _, rfl, by decide⟩, ⟨rfl, by decide, _, rfl, by decide⟩⟩

theorem witness_PcReads : Inv start := inv_start

theorem witness_ControllerStateMachine :
    (start.pcState ≠ .moving ∧ Answers (exec .pcUpdate start) fun _ => True) ∧
    ((movingTo 0#32 0#32).pcState = .moving ∧ Answers (exec .pcUpdate (movingTo 0#32 0#32)) fun t => t.pcState = .arrived) ∧
    Answers (exec .pcUpdate (movingTo 65536#32 0#32)) (fun t => t.pcState = .moving) :=
  ⟨⟨by decide, _, rfl, trivial⟩, ⟨rfl, _, rfl, rfl⟩, ⟨_, rfl, rfl⟩⟩

/-- A PC_ESTOP enters ERROR; a reset, a PC_HOMING and a PC_SET_TARGET leave it. -/
theorem witness_ErrorIsEnteredAndLeftOnlyByCommand :
    let s : State := { start with pcState := .error }
    Answers (step { start with pending := [commandEdge (bare 0x27#8) (inputs false false 0#32)] }) (fun t =>
      start.pcState ≠ .error ∧ t.pcState = .error) ∧
    s.pcState = .error ∧
    Answers (step { s with pending := [⟨true, false, bare 0#8, inputs false false 0#32⟩] }) (fun t => t.pcState ≠ .error) ∧
    Answers (step { s with pending := [commandEdge (bare 0x26#8) (inputs false false 0#32)] }) (fun t =>
      t.pcState ≠ .error) ∧
    Answers (step { s with pending := [commandEdge (bare 0x21#8) (inputs false false 0#32)] }) (fun t =>
      t.pcState ≠ .error) :=
  ⟨⟨_, rfl, by decide⟩, rfl, ⟨_, rfl, by decide⟩, ⟨_, rfl, by decide⟩, ⟨_, rfl, by decide⟩⟩

/-- Exactly one degree of error is not within one degree of tolerance (V6); TOL_Q = 0 with no error at all. -/
theorem witness_StalledActuatorIsPolledForever :
    let s := movingTo 65536#32 0#32
    let z : State := { movingTo 0#32 0#32 with params := ⟨360, 2949120, 0, by decide⟩ }
    (s.pcState = .moving ∧ s.params.tolQ ≤ s.pcError.natAbs) ∧ z.pcState = .moving ∧ z.params.tolQ ≤ z.pcError.natAbs := by
  decide

theorem witness_TwoDriversOfOneGenerator :
    let s := movingTo 65536#32 0#32
    let r : State := { highSession .fwd 1#32 9#32 with pcState := .moving, pcTarget := 65536#32 }
    (s.pcState = .moving ∧ s.params.tolQ ≤ s.pcError.natAbs) ∧
    ((5#32 : Word) ≠ 0#32 ∧ since (inputs false false 7#32) (inputs false false 11#32) < pgIntervalOf 100000) ∧
    (r.pcState = .moving ∧ r.params.tolQ ≤ r.pcError.natAbs ∧
      Answers (exec .pgUpdate (r.latch (inputs false false 5#32))) fun u => u.pgState = .running) :=
  ⟨by decide, by decide, rfl, by decide, _, rfl, by decide⟩

/-- 45 degrees away, TOL_Q one unit above one count: 2001 polls are enough, and such runs exist. -/
theorem witness_ConvergesUnderTheIdealPlant :
    let s : State := { movingTo 2949120#32 0#32 with params := ⟨360, 2949120, 65537, by decide⟩ }
    (∃ u, IdealRun 2001 s u) ∧ s.pcState = .moving ∧ s.pgState ≠ .running ∧ s.outFwd = false ∧ s.outRev = false ∧
    s.params.ppr ≤ 23592960 ∧ s.qdLogical.natAbs * 23592960 < 2147483648 * s.params.ppr ∧
    (23592960 + s.params.ppr - 1) / s.params.ppr < s.params.tolQ ∧
    (a2cExact s.params s.pcError.natAbs / 1000 + 1) * 2001 ≤ ((2001 : Nat) : Int) :=
  ⟨idealRun_exists _ _, by decide⟩

theorem witness_OvershootCanRunForever :
    let s : State := { movingTo 32768#32 0#32 with params := ⟨360, 2949120, 32768, by decide⟩ }
    (∃ u, IdealRun 50 s u) ∧ s.pcState = .moving ∧ s.params.ppr = 360 ∧ s.pcTarget = 32768#32 ∧ s.params.tolQ ≤ 32768 :=
  ⟨idealRun_exists _ _, by decide⟩

/-- A step that emits the last pulse of a session, from a state with the invariants. -/
theorem witness_EveryStepKeepsTheInvariants :
    Inv (highSession .rev 4#32 9#32) ∧
    Answers (step { highSession .rev 4#32 9#32 with pending := [commandEdge (bare 0x13#8) (inputs false false 5#32)] })
      (fun t => t.pgEmitted = 5#32) :=
  ⟨inv_highSession.1, _, rfl, by decide⟩

theorem witness_EveryRunIsSafe : Inv (highSession .rev 4#32 9#32) := inv_highSession.1

/-- Commands that do write: a step of the decoder, a start, a target. -/
theorem witness_RegisterWriters :
    Answers (exec .qdUpdate { start with sample := inputs true false 0#32 }) (fun t =>
      t.qdPrev ≠ start.qdPrev ∧ t.qdRaw ≠ start.qdRaw) ∧
    Answers (exec .qdReset { start with qdRaw := 3#32 }) (fun t => t.qdOffset ≠ start.qdOffset) ∧
    Answers (exec (.pgStart .rev 2#32 7#32) { start with pgEmitted := 1#32, sample := inputs true false 9#32 }) (fun t =>
      t.pgState ≠ start.pgState ∧ t.pgDir ≠ start.pgDir ∧ t.pgEmitted ≠ 1#32 ∧ t.pgRequested ≠ start.pgRequested ∧
      t.pgInterval ≠ start.pgInterval ∧ t.pgLastT ≠ start.pgLastT) ∧
    Answers (exec .pgUpdate (lowSession 5#32)) (fun t => t.pgLevel ≠ false ∧ t.outFwd ≠ false) ∧
    Answers (exec .pcEstop (highSession .rev 4#32 9#32)) (fun t => t.outRev ≠ true ∧ t.pcState ≠ start.pcState) ∧
    Answers (exec (.pcSetTarget 7#32) start) (fun t => t.pcTarget ≠ start.pcTarget) :=
  ⟨⟨_, rfl, by decide⟩, ⟨_, rfl, by decide⟩, ⟨_, rfl, by decide⟩, ⟨_, rfl, by decide⟩, ⟨_, rfl, by decide⟩,
    ⟨_, rfl, by decide⟩⟩

/-- A command of each component, at its first and last opcode. -/
theorem witness_ComponentFrames :
    (Answers (exec .qdInit start) (fun _ => True) ∧ Instr.qdInit.opcode.toNat < 0x10 ∧ Instr.qdGetAngle.opcode.toNat < 0x10) ∧
    (0x10 ≤ Instr.pgInit.opcode.toNat ∧ Instr.pgGetCount.opcode.toNat < 0x20) ∧
    (0x20 ≤ Instr.pcInit.opcode.toNat ∧ Answers (exec .pcUpdate start) (fun _ => True)) :=
  ⟨⟨⟨_, rfl, trivial⟩, by decide, by decide⟩, by decide, by decide, _, rfl, trivial⟩

theorem witness_BuildParametersAreFixed :
    Answers (step { start with pending := [commandEdge (bare 0x01#8) (inputs true true 0#32)] }) (fun t =>
      t.params = d30) := ⟨_, rfl, rfl⟩

theorem witness_PureCommandsOnlyRespond :
    Instr.qdGetRaw.opcode ∈ [0x03#8] ∧ (Instr.qdCountToAngle 5#32).opcode = 0x07#8 ∧ Instr.pcGetState.opcode = 0x25#8 := by
  decide

/-- The same phase levels at two times for a QD_UPDATE; the same time with different levels for a PC_UPDATE. -/
theorem witness_UnusedInputsNeverMatter :
    let x := inputs true false 5#32
    let y := inputs true false 9#32
    let z := inputs false true 5#32
    (Answers (exec .qdUpdate (start.latch x)) (fun _ => True) ∧ x ≠ y ∧ x.phaseA = y.phaseA ∧ x.phaseB = y.phaseB) ∧
    (Answers (exec .pcUpdate (start.latch x)) (fun _ => True) ∧ x ≠ z ∧ x.timeUs = z.timeUs) :=
  ⟨⟨⟨_, rfl, trivial⟩, by decide⟩, ⟨_, rfl, trivial⟩, by decide⟩

theorem witness_HiddenRegistersNeverRespond :
    Answers (exec .pgUpdate (lowSession 5#32)) (fun _ => True) ∧
    Answers (exec .pgUpdate { lowSession 5#32 with
      qdPrev := 3#2, pgDir := .rev, pgRequested := 9#32, pgInterval := 6#32, pgLevel := true, pgLastT := 1#32 })
      (fun _ => True) := ⟨⟨_, rfl, trivial⟩, ⟨_, rfl, trivial⟩⟩

end Sys2Proof.Tests
end

/-! Proofs about the state (spec/10_state.md): what commands and steps leave unchanged, what they answer, and the
invariants I1 to I8 of R38. -/

namespace Sys2Proof.Machine

open Sys2Proof.Safety

/-! ### Every command and every step answers a next state (R200) -/

/-- R200: no command faults and none is refused. -/
theorem exec_answers (i : Instr) (s : State) : ∃ t, exec i s = .next t := by
  cases i
  case pcUpdate =>
    rcases execPcUpdate_cases s with ⟨-, e⟩ | ⟨-, -, e⟩ | ⟨-, -, -, e⟩ | ⟨-, -, -, e⟩ <;> exact ⟨_, e⟩
  all_goals exact ⟨_, rfl⟩

theorem step_answers (s : State) : ∃ t, step s = .next t := by
  obtain ⟨s1, -, -, e | ⟨i, e⟩ | e⟩ := step_cases s
  · exact ⟨_, e⟩
  · rw [e]; exact exec_answers i s1
  · exact ⟨_, e⟩

/-! ### Frames of the commands (R40, R55, R105, R135, R165) -/

/-- Also the frame of an update written out as a record: one that leaves the generator's fields alone unfolds to this. -/
theorem samePg_refl (s : State) : SamePg s s :=
  ⟨rfl, rfl, rfl, rfl, rfl, rfl, rfl, rfl, rfl⟩

/-- R167: a PC_UPDATE writes no decoder register, not the target and no port, whichever branch it takes. -/
theorem execPcUpdate_frame {s t : State} (h : execPcUpdate s = .next t) :
    SameQd s t ∧ t.pcTarget = s.pcTarget ∧ SamePorts s t := by
  rcases execPcUpdate_cases s with ⟨-, e⟩ | ⟨-, -, e⟩ | ⟨-, -, -, e⟩ | ⟨-, -, -, e⟩ <;> rw [e] at h <;> cases h <;>
    simp [SameQd, SamePorts, pgUpdate_frame]

/-- R138: a PG_UPDATE writes no decoder and no controller register and no port. -/
theorem execPgUpdate_frame {s t : State} (h : execPgUpdate s = .next t) :
    SameQd s t ∧ SamePc s t ∧ SamePorts s t := by
  cases h
  simp [SameQd, SamePc, SamePorts, pgUpdate_frame]

/-- R40: no command writes the build parameters, the latched inputs or the edges to come. -/
theorem exec_samePorts {i : Instr} {s t : State} (h : exec i s = .next t) : SamePorts s t := by
  cases i
  case pcUpdate => exact (execPcUpdate_frame h).2.2
  case pgUpdate => exact (execPgUpdate_frame h).2.2
  all_goals cases h; exact ⟨rfl, rfl, rfl, rfl⟩

/-- R105 to R113: a decoder command writes no generator and no controller register. -/
theorem exec_decoder_frame {i : Instr} {s t : State} (h : exec i s = .next t) (hop : i.opcode.toNat < 0x10) :
    SamePg s t ∧ SamePc s t := by
  cases i
  case qdInit | qdUpdate | qdGetRaw | qdGetCount | qdReset | qdSetOffset | qdCountToAngle | qdAngleToCount
      | qdGetAngle =>
    cases h; exact ⟨samePg_refl _, rfl, rfl⟩
  all_goals simp [Instr.opcode] at hop

/-- R135 to R140: a generator command writes no decoder and no controller register. -/
theorem exec_generator_frame {i : Instr} {s t : State} (h : exec i s = .next t) (hlo : 0x10 ≤ i.opcode.toNat)
    (hhi : i.opcode.toNat < 0x20) : SameQd s t ∧ SamePc s t := by
  cases i
  case pgUpdate =>
    obtain ⟨hqd, hpc, -⟩ := execPgUpdate_frame h
    exact ⟨hqd, hpc⟩
  case pgInit | pgStart | pgStop | pgGetState | pgGetCount =>
    cases h; exact ⟨⟨rfl, rfl, rfl⟩, rfl, rfl⟩
  all_goals simp [Instr.opcode] at hlo hhi

/-- R165 to R172: a controller command writes neither QD_PREV nor QD_RAW. -/
theorem exec_controller_frame {i : Instr} {s t : State} (h : exec i s = .next t) (hop : 0x20 ≤ i.opcode.toNat) :
    t.qdPrev = s.qdPrev ∧ t.qdRaw = s.qdRaw := by
  cases i
  case pcUpdate =>
    obtain ⟨⟨hprev, hraw, -⟩, -⟩ := execPcUpdate_frame h
    exact ⟨hprev, hraw⟩
  case pcInit | pcSetTarget | pcGetTarget | pcGetCurrent | pcGetState | pcHoming | pcEstop =>
    cases h; exact ⟨rfl, rfl⟩
  all_goals simp [Instr.opcode] at hop

/-- Settles O50, from the frame of each component's commands. -/
theorem componentFrames : Obligations.ComponentFrames := by
  intro i s t h
  refine ⟨exec_samePorts h, exec_decoder_frame h, exec_generator_frame h, exec_controller_frame h, ?_⟩
  rintro rfl
  obtain ⟨hqd, htarget, -⟩ := execPcUpdate_frame h
  exact ⟨hqd, htarget⟩

/-- Settles O49, command by command: the two commands that poll by their frames, every other by its one next state. -/
theorem registerWriters : Obligations.RegisterWriters := by
  intro i s t h
  cases i
  case pcUpdate =>
    obtain ⟨⟨hprev, hraw, hoffset⟩, htarget, -⟩ := execPcUpdate_frame h
    simp [Instr.opcode, hprev, hraw, hoffset, htarget]
  case pgUpdate =>
    cases h
    simp [Instr.opcode, pgUpdate_frame]
  all_goals cases h; simp [Instr.opcode]

/-- Settles O51: of a reset, a command and an illegal opcode, only a command could write them, and none does. -/
theorem buildParametersAreFixed : Obligations.BuildParametersAreFixed := by
  intro s t h
  obtain ⟨s1, x, ⟨p, n, rfl⟩, e | ⟨i, e⟩ | e⟩ := step_cases s <;> rw [e] at h
  · cases h; rfl
  · exact (exec_samePorts h).1
  · cases h; rfl

/-! ### Responses (R77) -/

/-- R77: RSP_DATA of each command, as a function of the state it is executed in. -/
def responseData (i : Instr) (s : State) : Word :=
  match i with
  | .qdGetRaw => s.qdRaw
  | .qdGetCount => pattern32 s.qdLogical
  | .qdCountToAngle count => pattern32 (c2a s.params (operandS32 count))
  | .qdAngleToCount angle => pattern32 (a2c s.params (operandQ32 angle))
  | .qdGetAngle => pattern32 (c2a s.params s.qdLogical)
  | .pgGetState => zext32 s.pgState.code
  | .pgGetCount => s.pgEmitted
  | .pcGetTarget => s.pcTarget
  | .pcGetCurrent => pattern32 s.pcCurrent
  | .pcGetState => zext32 s.pcState.code
  | _ => 0#32

/-- R76, R77: what a command answers. -/
theorem exec_response {i : Instr} {s t : State} (h : exec i s = .next t) :
    t.rspStatus = false ∧ t.rspData = responseData i s := by
  cases i
  case pcUpdate =>
    simp only [exec] at h
    rcases execPcUpdate_cases s with ⟨-, e⟩ | ⟨-, -, e⟩ | ⟨-, -, -, e⟩ | ⟨-, -, -, e⟩ <;> rw [e] at h <;> cases h <;>
      exact ⟨rfl, rfl⟩
  all_goals cases h; exact ⟨rfl, rfl⟩

/-- R39: no entry of the response table reads a hidden register. -/
theorem responseData_hidden (i : Instr) (s : State) (p : BitVec 2) (d : Direction) (n k z : Word) (l : Bool) :
    responseData i { s with qdPrev := p, pgDir := d, pgRequested := n, pgInterval := k, pgLevel := l, pgLastT := z } =
      responseData i s := by
  cases i <;> rfl

/-- Settles O54: both responses are the table's entry, which reads no hidden register. -/
theorem hiddenRegistersNeverRespond : Obligations.HiddenRegistersNeverRespond := by
  intro i s p d n k z l t u ht hu
  obtain ⟨htStatus, htData⟩ := exec_response ht
  obtain ⟨huStatus, huData⟩ := exec_response hu
  exact ⟨huStatus.trans htStatus.symm, by rw [huData, htData, responseData_hidden]⟩

/-! ### The free draw of the inputs (R42, R63) -/

theorem firstActive_eq_none_of_idle {es : List Edge} (h : ∀ e ∈ es, e.rst = false ∧ e.cmdValid = false) :
    firstActive es = none := by
  induction es with
  | nil => rfl
  | cons e es ih =>
    obtain ⟨⟨hr, hv⟩, hes⟩ := List.forall_mem_cons.mp h
    rw [firstActive_cons_idle (by simp [Edge.active, hr, hv]), ih hes]

/-- Settles O6: with only idle edges pending, the edge taken is the drawn one. -/
theorem stepDrawsUnknownInputs : Obligations.StepDrawsUnknownInputs := by
  intro s hidle
  exact ⟨by rw [step, takeEdge_of_none (firstActive_eq_none_of_idle hidle)], rfl⟩

/-! ### The selected output line -/

/-- R133: driving the selected line, as one update. -/
theorem drive_eq (s : State) (v : Bool) :
    s.drive v = { s with
      outFwd := if s.pgDir = .fwd then v else s.outFwd
      outRev := if s.pgDir = .rev then v else s.outRev } := by
  cases hd : s.pgDir
  · simp [drive_fwd hd, hd]
  · simp [drive_rev hd, hd]

/-! ### Reset values (R43, R8) -/

/-- R8: the build parameters, with the values R7 fixes, meet every constraint. -/
theorem raw_wf (p : Params) : p.raw.wf = true := by
  obtain ⟨ppr, maxAngleQ, tolQ, hppr, hmax, htol⟩ := p
  simp [RawConfig.wf, Params.raw, hppr, hmax, htol, Config.pulseFreqHz, Config.minBurst, Config.maxBurst]

/-- Settles O9: each register by evaluation, the parameters by `raw_wf`. -/
theorem resetStateHasTheResetValues : Obligations.ResetStateHasTheResetValues :=
  ⟨rfl, rfl, rfl, rfl, rfl, rfl, rfl, rfl, rfl, rfl, rfl, rfl, rfl, rfl, rfl, rfl, raw_wf _⟩

end Sys2Proof.Machine

/-! ### The invariants I1 to I8 (R38)

Each shared operation keeps them; a command is a sequence of such operations, and a step a command, an illegal opcode or
a reset. -/

namespace Sys2Proof.Safety

open Sys2Proof.Machine

/-- I6 for a state: the target is within ±MAX_ANGLE_Q. -/
abbrev TargetInRange (s : State) : Prop :=
  -(s.params.maxAngleQ : Int) ≤ s32 s.pcTarget ∧ s32 s.pcTarget ≤ (s.params.maxAngleQ : Int)

theorem targetInRange_zero {s : State} (h : s.pcTarget = 0#32) : TargetInRange s := by
  simp [TargetInRange, h]

/-- R166: the clamped operand is in range as the register holds it. -/
theorem targetInRange_clamp {s : State} {x : Int}
    (h : s.pcTarget = pattern32 (clamp x (-(s.params.maxAngleQ : Int)) s.params.maxAngleQ)) : TargetInRange s := by
  obtain ⟨-, hmax, -⟩ := s.params.ok
  have hc := clamp_range (x := x) (lo := -(s.params.maxAngleQ : Int)) (hi := s.params.maxAngleQ) (by omega)
  rw [TargetInRange, h, s32_pattern32 (by omega)]
  exact hc

/-- I8 holds of every PG_STATE. -/
theorem pgState_code_values (p : PgState) : p.code.toNat = 0 ∨ p.code.toNat = 1 ∨ p.code.toNat = 2 := by
  cases p <;> decide

/-- With both outputs and PG_LEVEL low, I2, I3 and I4 hold, and the others remain. -/
theorem Inv.of_low {s : State} (hfwd : s.outFwd = false) (hrev : s.outRev = false) (hlevel : s.pgLevel = false)
    (hle : u32 s.pgEmitted ≤ u32 s.pgRequested) (hlt : s.pgState = .running → u32 s.pgEmitted < u32 s.pgRequested)
    (htarget : TargetInRange s) (hinterval : 1 ≤ u32 s.pgInterval ∧ u32 s.pgInterval ≤ 500000) : Inv s where
  emitted_le_requested := hle
  not_both_high := by simp [hfwd]
  low_unless_running _ := ⟨hfwd, hrev⟩
  running_line _ := by cases s.pgDir <;> simp [outLine, otherDir, hfwd, hrev, hlevel]
  running_emitted := hlt
  target_range := htarget
  interval_range := hinterval
  pgState_code := pgState_code_values _

/-- The invariants speak of the generator, the target and the parameters alone. -/
theorem Inv.of_samePg {s t : State} (hi : Inv s) (hpg : SamePg s t) (htarget : TargetInRange t) : Inv t := by
  obtain ⟨hstate, hdir, hemitted, hrequested, hinterval, hlevel, -, hfwd, hrev⟩ := hpg
  have hline : outLine t = outLine s := by funext d; cases d <;> simp [outLine, hfwd, hrev]
  constructor
  case target_range => exact htarget
  case pgState_code => exact pgState_code_values _
  case emitted_le_requested => rw [hemitted, hrequested]; exact hi.emitted_le_requested
  case not_both_high => rw [hfwd, hrev]; exact hi.not_both_high
  case low_unless_running => rw [hstate, hfwd, hrev]; exact hi.low_unless_running
  case running_line => rw [hstate, hline, hdir, hlevel]; exact hi.running_line
  case running_emitted => rw [hstate, hemitted, hrequested]; exact hi.running_emitted
  case interval_range => rw [hinterval]; exact hi.interval_range

theorem Inv.respond {s : State} (hi : Inv s) (d : Word) : Inv (s.respond d) :=
  hi.of_samePg (samePg_refl _) hi.target_range

/-- R131. -/
theorem Inv.pgStop {s : State} (hi : Inv s) : Inv s.pgStop :=
  .of_low rfl rfl rfl hi.emitted_le_requested (by simp) hi.target_range hi.interval_range

/-- R132: a new session has emitted 0 pulses, and it runs only if it has a pulse to emit. -/
theorem Inv.pgStart {s : State} (hi : Inv s) (d : Direction) (n : Word) (f : Nat) (now : Word) :
    Inv (s.pgStart d n f now) := by
  refine .of_low rfl rfl rfl (by simp) ?_ hi.target_range ?_
  · simp only [State.pgStart_pgState, State.pgStart_pgEmitted, State.pgStart_pgRequested]
    intro hrun
    have hn : n ≠ 0#32 := by rintro rfl; simp at hrun
    exact Nat.pos_of_ne_zero fun h0 => hn (BitVec.eq_of_toNat_eq h0)
  · rw [State.pgStart_pgInterval, u32, pgIntervalOf_toNat]
    exact pgIntervalOf_range f

/-- R133: a transition of a running session that has pulses left to emit, in either direction of the line. -/
theorem Inv.transition {s : State} (hi : Inv s) (hrun : s.pgState = .running) (v : Bool) {emitted : Word}
    (hlt : u32 emitted < u32 s.pgRequested) (now : Word) :
    Inv { s.drive v with pgLevel := v, pgEmitted := emitted, pgLastT := now } := by
  obtain ⟨-, hother⟩ := hi.running_line hrun
  rw [drive_eq]
  exact
    { emitted_le_requested := hlt.le
      not_both_high := by cases hd : s.pgDir <;> simp_all [outLine, otherDir]
      low_unless_running := fun h => absurd hrun h
      running_line := fun _ => by cases hd : s.pgDir <;> simp_all [outLine, otherDir]
      running_emitted := fun _ => hlt
      target_range := hi.target_range
      interval_range := hi.interval_range
      pgState_code := pgState_code_values _ }

/-- R133: the count of a running session does not wrap, by I5. -/
theorem Inv.emitted_succ {s : State} (hi : Inv s) (hrun : s.pgState = .running) :
    u32 (s.pgEmitted + 1#32) = u32 s.pgEmitted + 1 := by
  have hlt := hi.running_emitted hrun
  simp only [u32] at hlt ⊢
  have := s.pgRequested.isLt
  rw [BitVec.toNat_add]
  simp only [BitVec.toNat_ofNat]
  omega

/-- R133: the polling step keeps the invariants: it changes nothing, makes a transition with pulses left, or ends the
session. -/
theorem Inv.pgUpdate {s : State} (hi : Inv s) (now : Word) : Inv (s.pgUpdate now) := by
  rcases pgUpdate_cases s now with ⟨-, e⟩ | ⟨-, -, e⟩ | ⟨hrun, -, -, e⟩ | ⟨hrun, -, -, hlt, e⟩ | ⟨hrun, -, -, -, e⟩
    <;> rw [e]
  · exact hi
  · exact hi
  · have h := hi.transition hrun true (hi.running_emitted hrun) now
    rw [drive_eq] at h ⊢
    exact h
  · exact hi.transition hrun false hlt now
  · have hle : u32 (s.pgEmitted + 1#32) ≤ u32 s.pgRequested := by
      rw [hi.emitted_succ hrun]
      exact hi.running_emitted hrun
    exact .of_low rfl rfl rfl hle (by simp) hi.target_range hi.interval_range

/-- R43, R220: the reset values meet the invariants, whatever the state was. -/
theorem inv_resetRegs (s : State) : Inv s.resetRegs :=
  .of_low rfl rfl rfl (by simp) (by simp) (targetInRange_zero rfl) (by simp)

/-- R167: each branch of PC_UPDATE is a sequence of operations that keep the invariants. -/
theorem Inv.execPcUpdate {s t : State} (hi : Inv s) (h : execPcUpdate s = .next t) : Inv t := by
  have hpoll : Inv (s.pgUpdate s.now) := hi.pgUpdate s.now
  rcases execPcUpdate_cases s with ⟨-, e⟩ | ⟨-, -, e⟩ | ⟨-, -, -, e⟩ | ⟨-, -, -, e⟩ <;> rw [e] at h <;> cases h
  · exact hi.respond _
  · exact hpoll.pgStop.of_samePg (samePg_refl _) hpoll.target_range
  · exact hpoll.respond _
  · exact (hpoll.pgStart _ _ _ _).respond _

/-- R38: every command keeps the invariants. -/
theorem Inv.exec {i : Instr} {s t : State} (hi : Inv s) (h : exec i s = .next t) : Inv t := by
  cases i
  case pgInit => cases h; exact .of_low rfl rfl rfl (by simp) (by simp) hi.target_range (by simp)
  case pgStart d n f => cases h; exact (hi.pgStart d n _ _).respond _
  case pgStop => cases h; exact hi.pgStop.respond _
  case pgUpdate => cases h; exact (hi.pgUpdate _).respond _
  case pcUpdate => exact hi.execPcUpdate h
  case pcInit =>
    cases h
    exact hi.of_samePg (samePg_refl _) (targetInRange_zero rfl)
  case pcSetTarget angle =>
    cases h
    exact hi.of_samePg (samePg_refl _) (targetInRange_clamp rfl)
  case pcHoming =>
    cases h
    exact hi.pgStop.of_samePg (samePg_refl _) (targetInRange_zero rfl)
  case pcEstop =>
    cases h
    exact hi.pgStop.of_samePg (samePg_refl _) hi.target_range
  -- the decoder's commands and the reads
  all_goals cases h; exact hi.of_samePg (samePg_refl _) hi.target_range

/-- R38: every step keeps the invariants. -/
theorem Inv.step {s t : State} (hi : Inv s) (h : step s = .next t) : Inv t := by
  obtain ⟨s1, x, ⟨p, n, rfl⟩, e⟩ := step_cases s
  have h1 : Inv { s with pending := p, drawIndex := n, sample := x } :=
    hi.of_samePg (samePg_refl _) hi.target_range
  rcases e with e | ⟨i, e⟩ | e <;> rw [e] at h
  · cases h; exact inv_resetRegs _
  · exact h1.exec h
  · cases h; exact h1.of_samePg (samePg_refl _) h1.target_range

/-- Settles O47: a step is a reset, a command or an illegal opcode, and each of them keeps the invariants. -/
theorem everyStepKeepsTheInvariants : Obligations.EveryStepKeepsTheInvariants :=
  fun _ _ hi h => hi.step h

/-- Settles O48, by induction on the number of steps: each step answers a next state and keeps the invariants. -/
theorem everyRunIsSafe : Obligations.EveryRunIsSafe := by
  intro n
  induction n with
  | zero => exact fun s hi => ⟨s, steps_zero s, hi⟩
  | succ n ih =>
    intro s hi
    obtain ⟨t, h⟩ := step_answers s
    rw [SafeRun, steps_succ h]
    exact ih t (hi.step h)

/-- Settles O46: a reset edge leaves the reset state as it is, and every state after such an edge has the invariants. -/
theorem resetStateMeetsTheInvariants : Obligations.ResetStateMeetsTheInvariants := by
  have hreset : State.reset.resetRegs = State.reset := rfl
  rw [Obligations.ResetStateMeetsTheInvariants, ← hreset]
  exact inv_resetRegs State.reset

end Sys2Proof.Safety

/-! Proofs about memory, order and inputs (spec/20_memory.md): commands run one at a time in the order issued, a command
ignores the inputs it does not use, the pure commands only respond, and the properties of the lookup table. -/

namespace Sys2Proof.Machine

open Sys2Proof.Safety

/-! ### Commands run in the order issued (R58) -/

/-- R72, R79: a direction is read back from the field that encodes it. -/
theorem ofArg_toArg (d : Direction) : Direction.ofArg d.toArg = d := by
  cases d <;> simp [Direction.ofArg, Direction.toArg]

/-- R73, R79: every command decodes from its own word. -/
theorem decode_encode (i : Instr) : decode (encode i) = .ok i := by
  cases i
  case pgStart dir n f => exact congrArg (fun d => Except.ok (Instr.pgStart d n f)) (ofArg_toArg dir)
  all_goals rfl

/-- Settles O7: the first command answers a next state (`exec_answers`), and the run goes on from it. -/
theorem commandsRunInTheOrderIssued : Obligations.CommandsRunInTheOrderIssued := by
  intro i x cs s
  obtain ⟨t, h⟩ := exec_answers i (s.latch x)
  exact ⟨t, h, runCommands_cons (decode_encode i) h cs⟩

/-! ### Unused inputs (R63) -/

/-- R133: a poll neither reads nor writes the latched inputs. -/
theorem pgUpdate_latch (s : State) (x : Sample) (now : Word) :
    (s.latch x).pgUpdate now = (s.pgUpdate now).latch x :=
  pgUpdate_withSample s now x

theorem latch_pcError (s : State) (x : Sample) : (s.latch x).pcError = s.pcError := rfl

/-- R138: of the inputs, a PG_UPDATE uses `now` alone. -/
theorem execPgUpdate_latch {s t : State} {x y : Sample} (hnow : x.timeUs = y.timeUs)
    (h : execPgUpdate (s.latch x) = .next t) : execPgUpdate (s.latch y) = .next (t.latch y) := by
  simp only [execPgUpdate, State.now, State.latch_sample, pgUpdate_latch, hnow] at h ⊢
  cases h; rfl

/-- R167: of the inputs, a PC_UPDATE uses `now` alone: both samples lead into the same branch. -/
theorem execPcUpdate_latch {s t : State} {x y : Sample} (hnow : x.timeUs = y.timeUs)
    (h : execPcUpdate (s.latch x) = .next t) : execPcUpdate (s.latch y) = .next (t.latch y) := by
  simp only [execPcUpdate, State.now, State.latch_sample, State.latch_pcState, State.latch_params,
    State.latch_pgState, pgUpdate_latch, latch_pcError, hnow] at h ⊢
  split_ifs at h ⊢ <;> cases h <;> rfl

/-- Settles O53: the commands that use an input find it the same in both samples, and every other command reads none. -/
theorem unusedInputsNeverMatter : Obligations.UnusedInputsNeverMatter := by
  rintro i s t ⟨a, b, now⟩ ⟨a', b', now'⟩ h hphase hnow
  cases i
  case qdInit | qdUpdate =>
    obtain ⟨rfl, rfl⟩ : a = a' ∧ b = b' := hphase (by decide)
    cases h; rfl
  case pgStart =>
    obtain rfl : now = now' := hnow (by simp [Instr.opcode])
    cases h; rfl
  case pgUpdate => exact execPgUpdate_latch (hnow (by decide)) h
  case pcUpdate => exact execPcUpdate_latch (hnow (by decide)) h
  all_goals cases h; rfl

/-! ### The pure commands (R55) -/

/-- The opcodes of the ten pure commands. -/
abbrev pureOpcodes : List Opcode :=
  [0x03#8, 0x04#8, 0x07#8, 0x08#8, 0x09#8, 0x14#8, 0x15#8, 0x23#8, 0x24#8, 0x25#8]

/-- R55: a pure command responds with its entry of R77 and does nothing else. -/
theorem exec_pure {i : Instr} (hpure : i.opcode ∈ pureOpcodes) (s : State) :
    exec i s = .next (s.respond (responseData i s)) := by
  cases i
  case qdGetRaw | qdGetCount | qdCountToAngle | qdAngleToCount | qdGetAngle | pgGetState | pgGetCount | pcGetTarget
      | pcGetCurrent | pcGetState => rfl
  all_goals simp [Instr.opcode] at hpure

/-- No entry of the response table reads the response ports. -/
theorem responseData_respond (i : Instr) (s : State) (d : Word) : responseData i (s.respond d) = responseData i s := by
  cases i <;> rfl

/-- Settles O52: a pure command responds with its entry of R77, which the response itself does not change. -/
theorem pureCommandsOnlyRespond : Obligations.PureCommandsOnlyRespond := by
  intro i s hpure
  refine ⟨responseData i s, exec_pure hpure s, ?_⟩
  have hagain := exec_pure hpure (s.respond (responseData i s))
  rwa [responseData_respond] at hagain

/-! ### The lookup table (R51, R52) -/

/-- R52(a): no motion and double-bit changes have the entry 0, and no other transition has. -/
theorem lut_eq_zero_iff (p c : BitVec 2) : lut (p ++ c) = 0 ↔ p = c ∨ p ^^^ c = 3#2 := by
  revert p c; decide

/-- Two phase states are equal, differ in both bits, or differ in exactly one. -/
theorem xor_single_bit_iff (p c : BitVec 2) : (p ^^^ c = 1#2 ∨ p ^^^ c = 2#2) ↔ ¬ (p = c ∨ p ^^^ c = 3#2) := by
  revert p c; decide

/-- R52(b): the entries +1 and -1 are those of the single-bit changes, since every other entry is 0. -/
theorem lut_eq_one_or_neg_one_iff (p c : BitVec 2) :
    (lut (p ++ c) = 1 ∨ lut (p ++ c) = -1) ↔ p ^^^ c = 1#2 ∨ p ^^^ c = 2#2 := by
  rw [xor_single_bit_iff, ← lut_eq_zero_iff]
  have := lut_values (p ++ c)
  omega

/-- R52(c): the transitions out of a phase state cancel. -/
theorem lut_row_sum (p : BitVec 2) : lut (p ++ 0#2) + lut (p ++ 1#2) + lut (p ++ 2#2) + lut (p ++ 3#2) = 0 := by
  revert p; decide

/-- R52(d): a transition and its reverse cancel. -/
theorem lut_antisymm (p c : BitVec 2) : lut (p ++ c) = -lut (c ++ p) := by
  revert p c; decide

/-- Settles O13: each property over the sixteen entries; the cycle sum by evaluation. -/
theorem lutTableProperties : Obligations.LutTableProperties :=
  ⟨lut_eq_zero_iff, lut_eq_one_or_neg_one_iff, lut_row_sum, lut_antisymm, rfl⟩

end Sys2Proof.Machine

/-! Proofs about the encoding (spec/30_encoding.md): the decoder and the encoder agree, which opcodes are illegal and
what they do, the ignored operand bits, the responses of every command, and which command a step runs. -/

namespace Sys2Proof.Machine

open Sys2Proof.Safety

/-! ### The opcode map (R73) -/

/-- The opcode column of R73. -/
abbrev legalOpcodes : List Opcode :=
  [0x01#8, 0x02#8, 0x03#8, 0x04#8, 0x05#8, 0x06#8, 0x07#8, 0x08#8, 0x09#8, 0x10#8, 0x11#8, 0x12#8,
    0x13#8, 0x14#8, 0x15#8, 0x20#8, 0x21#8, 0x22#8, 0x23#8, 0x24#8, 0x25#8, 0x26#8, 0x27#8]

theorem opcode_mem_legalOpcodes (i : Instr) : i.opcode ∈ legalOpcodes := by
  cases i <;> simp [Instr.opcode]

/-- R73: the three ranges of `legalOpcode` hold the opcodes of the map and no other. -/
theorem legalOpcode_iff_mem (op : Opcode) : legalOpcode op = true ↔ op ∈ legalOpcodes := by
  revert op; decide

/-- R73: each opcode of the map selects a command, whatever the operands. -/
theorem decode_ok_of_legalOpcode {w : CommandWord} (h : legalOpcode w.op = true) : ∃ i, decode w = .ok i := by
  obtain ⟨op, a, b, c⟩ := w
  rw [legalOpcode_iff_mem] at h
  fin_cases h <;> exact ⟨_, rfl⟩

/-! ### The decoder against the encoder (R72, R73, R75, R79) -/

@[simp] theorem canonical_op (w : CommandWord) : w.canonical.op = w.op := rfl

@[simp] theorem encode_op (i : Instr) : (encode i).op = i.opcode := by
  cases i <;> rfl

/-- R79: no two commands are written as the same word, since each decodes from its own. -/
theorem encode_injective : Function.Injective encode := by
  intro i j h
  have hdecode : decode (encode i) = decode (encode j) := congrArg decode h
  rwa [decode_encode, decode_encode, Except.ok.injEq] at hdecode

/-- R72, R28: of a direction's field, bit 0 alone is kept. -/
theorem toArg_ofArg (v : Word) : (Direction.ofArg v).toArg = v &&& 1#32 := by
  rw [BitVec.and_one_eq_setWidth_ofBool_getLsbD, Direction.ofArg]
  cases v.getLsbD 0 <;> rfl

/-- R73, R75: a word that decodes is, but for its ignored bits, the word of the command it decodes to. One case for each
row of the opcode map. -/
theorem canonical_of_decode {w : CommandWord} {i : Instr} (h : decode w = .ok i) : w.canonical = encode i := by
  unfold decode at h
  split at h <;> rename_i hop <;> cases h <;>
    simp [CommandWord.canonical, usedBits, encode, Instr.opcode, hop, toArg_ofArg, Laws.EncodeWellFormed.and_full]

/-- R73: clearing the ignored bits leaves the opcode, so it is the command's. -/
theorem op_mem_of_canonical {w : CommandWord} {i : Instr} (h : w.canonical = encode i) : w.op ∈ legalOpcodes := by
  rw [← canonical_op, h, encode_op]
  exact opcode_mem_legalOpcodes i

/-- A word that is, but for its ignored bits, a command's word has a legal opcode, so it decodes; and to no other
command, since the encoder is injective. -/
theorem decode_eq_ok_iff {w : CommandWord} {i : Instr} : decode w = .ok i ↔ w.canonical = encode i := by
  refine ⟨canonical_of_decode, fun h => ?_⟩
  obtain ⟨j, hj⟩ := decode_ok_of_legalOpcode ((legalOpcode_iff_mem w.op).mpr (op_mem_of_canonical h))
  have hij : i = j := encode_injective (h.symm.trans (canonical_of_decode hj))
  rw [hij, hj]

/-- Settles O3: every command decodes from its own word, and the canonical form decides what a word decodes to. -/
theorem decodeAgreesWithEncode : Obligations.DecodeAgreesWithEncode :=
  ⟨decode_encode, fun _ _ => decode_eq_ok_iff⟩

/-- R73: no other opcode selects a command. -/
theorem op_mem_of_decode {w : CommandWord} {i : Instr} (h : decode w = .ok i) : w.op ∈ legalOpcodes :=
  op_mem_of_canonical (canonical_of_decode h)

theorem legalOpcode_of_decode {w : CommandWord} {i : Instr} (h : decode w = .ok i) : legalOpcode w.op = true :=
  (legalOpcode_iff_mem w.op).mpr (op_mem_of_decode h)

/-- Settles O1: each row by evaluation, and no other opcode selects a command. -/
theorem opcodeMapSelectsTheCommand : Obligations.OpcodeMapSelectsTheCommand := by
  refine ⟨fun a b c => ?_, fun w i => op_mem_of_decode⟩
  refine ⟨?_, ?_, ?_, ?_, ?_, ?_, ?_, ?_, ?_, ?_, ?_, ?_, ?_, ?_, ?_, ?_, ?_, ?_, ?_, ?_, ?_, ?_, ?_⟩ <;> rfl

/-! ### Illegal opcodes (R74) -/

/-- R74: a word selects no command exactly when its opcode is not in the map. -/
theorem decode_ne_ok_iff (w : CommandWord) : (∀ i, decode w ≠ .ok i) ↔ legalOpcode w.op = false := by
  rw [← Bool.not_eq_true, ← not_exists]
  refine not_congr ⟨?_, decode_ok_of_legalOpcode⟩
  rintro ⟨i, h⟩
  exact legalOpcode_of_decode h

/-- R74: the illegal opcodes are the gaps between the ranges of R73. -/
theorem legalOpcode_eq_false_iff (op : Opcode) : legalOpcode op = false ↔
    op.toNat = 0 ∨ (0x0A ≤ op.toNat ∧ op.toNat ≤ 0x0F) ∨ (0x16 ≤ op.toNat ∧ op.toNat ≤ 0x1F) ∨
      0x28 ≤ op.toNat := by
  simp only [legalOpcode, Bool.or_eq_false_iff, decide_eq_false_iff_not]
  omega

/-- The decoder rejects by the opcode alone. -/
theorem decode_toOption_isNone (w : CommandWord) : (decode w).toOption.isNone = !legalOpcode w.op := by
  cases h : decode w with
  | ok i => rw [legalOpcode_of_decode h]; rfl
  | error r =>
    have hillegal : legalOpcode w.op = false := (decode_ne_ok_iff w).mp (by simp [h])
    rw [hillegal]; rfl

/-- R71: an edge that accepts a word samples the inputs and runs the word's command. -/
theorem clockEdge_commandEdge (w : CommandWord) (x : Sample) (s : State) :
    clockEdge (commandEdge w x) s = runCommand w (s.latch x) := rfl

theorem runCommand_of_ok {w : CommandWord} {i : Instr} (h : decode w = .ok i) (s : State) :
    runCommand w s = exec i s := by
  rw [runCommand, h]

theorem runCommand_of_illegal {w : CommandWord} (h : ∀ i, decode w ≠ .ok i) (s : State) :
    runCommand w s = .next s.respondIllegal := by
  cases hd : decode w with
  | ok i => exact absurd hd (h i)
  | error r => rw [runCommand, hd]

/-- Settles O2: the decoder rejects exactly the illegal opcodes, their number is counted over the 256, and running one
only responds. -/
theorem illegalOpcodeOnlyAnswersStatusOne : Obligations.IllegalOpcodeOnlyAnswersStatusOne := by
  refine ⟨fun w => (decode_ne_ok_iff w).trans (legalOpcode_eq_false_iff w.op), ?_, fun s w x h => ?_⟩
  · simp only [decode_toOption_isNone]
    rfl
  · rw [clockEdge_commandEdge, runCommand_of_illegal h]
    rfl

/-! ### Ignored operand bits (R75) -/

/-- R73, R75: the operand bits read are those of CMD_ARG0, those of PG_START, or none. -/
theorem usedBits_cases (op : Opcode) :
    (op ∈ [0x06#8, 0x07#8, 0x08#8, 0x21#8] ∧ usedBits op = (0xFFFFFFFF#32, 0#32, 0#32)) ∨
    (op = 0x11#8 ∧ usedBits op = (1#32, 0xFFFFFFFF#32, 0xFFFFFFFF#32)) ∨ usedBits op = (0#32, 0#32, 0#32) := by
  simp only [usedBits]
  split_ifs with harg0 hstart
  · exact .inl ⟨by simpa [← BitVec.toNat_inj] using harg0, rfl⟩
  · exact .inr (.inl ⟨BitVec.eq_of_toNat_eq hstart, rfl⟩)
  · exact .inr (.inr rfl)

/-- R75: words that agree on the opcode and on the bits their command reads have the same canonical form. -/
theorem canonical_congr {w v : CommandWord} (hop : w.op = v.op)
    (harg0 : w.op ∈ [0x06#8, 0x07#8, 0x08#8, 0x21#8] → w.arg0 = v.arg0)
    (hstart : w.op = 0x11#8 → w.arg0.getLsbD 0 = v.arg0.getLsbD 0 ∧ w.arg1 = v.arg1 ∧ w.arg2 = v.arg2) :
    w.canonical = v.canonical := by
  rcases usedBits_cases w.op with ⟨hmem, hused⟩ | ⟨heq, hused⟩ | hused
  · simp only [CommandWord.canonical, ← hop, hused, harg0 hmem, BitVec.and_zero]
  · obtain ⟨hbit, h1, h2⟩ := hstart heq
    have hdir : w.arg0 &&& 1#32 = v.arg0 &&& 1#32 := by
      rw [← toArg_ofArg, ← toArg_ofArg, Direction.ofArg, Direction.ofArg, hbit]
    simp only [CommandWord.canonical, ← hop, hused, hdir, h1, h2]
  · simp only [CommandWord.canonical, ← hop, hused, BitVec.and_zero]

/-- R75: words with the same canonical form decode to the same command, or both to none. -/
theorem runCommand_congr {w v : CommandWord} (h : w.canonical = v.canonical) (s : State) :
    runCommand w s = runCommand v s := by
  have hiff (i : Instr) : decode w = .ok i ↔ decode v = .ok i := by rw [decode_eq_ok_iff, decode_eq_ok_iff, h]
  by_cases hlegal : ∃ i, decode w = .ok i
  · obtain ⟨i, hi⟩ := hlegal
    rw [runCommand_of_ok hi, runCommand_of_ok ((hiff i).mp hi)]
  · have hw : ∀ i, decode w ≠ .ok i := not_exists.mp hlegal
    rw [runCommand_of_illegal hw, runCommand_of_illegal fun i hv => hw i ((hiff i).mpr hv)]

/-- Settles O4: the two words have the same canonical form, so they run the same command. -/
theorem ignoredOperandBitsNeverMatter : Obligations.IgnoredOperandBitsNeverMatter := by
  intro w v x s hop harg0 hstart
  rw [clockEdge_commandEdge, clockEdge_commandEdge, runCommand_congr (canonical_congr hop harg0 hstart)]

/-! ### Both response ports are written (R76) -/

/-- R167: a PC_UPDATE does not read the response ports, and it writes both in each of its branches. -/
theorem execPcUpdate_withResponse (s : State) (b : Bool) (d : Word) :
    execPcUpdate { s with rspStatus := b, rspData := d } = execPcUpdate s := by
  have hnow : ({ s with rspStatus := b, rspData := d } : State).now = s.now := rfl
  have herror : ∀ t : State, ({ t with rspStatus := b, rspData := d } : State).pcError = t.pcError := fun _ => rfl
  simp only [execPcUpdate, hnow, pgUpdate_withResponse, herror]
  split_ifs <;> rfl

/-- R76: no command reads the response ports, and every command writes both. -/
theorem exec_withResponse (i : Instr) (s : State) (b : Bool) (d : Word) :
    exec i { s with rspStatus := b, rspData := d } = exec i s := by
  cases i
  case pcUpdate => exact execPcUpdate_withResponse s b d
  case pgUpdate => exact congrArg (fun t => Host.Outcome.next (t.respond 0#32)) (pgUpdate_withResponse s s.now b d)
  all_goals rfl

theorem runCommand_withResponse (w : CommandWord) (s : State) (b : Bool) (d : Word) :
    runCommand w { s with rspStatus := b, rspData := d } = runCommand w s := by
  unfold runCommand
  cases decode w with
  | ok i => exact exec_withResponse i s b d
  | error r => rfl

/-- Settles O11: every command answers with status 0, and running a word overwrites whatever the ports held. -/
theorem everyCommandAnswersAndWritesBothPorts : Obligations.EveryCommandAnswersAndWritesBothPorts := by
  refine ⟨fun i s => ?_, fun w x s b d => runCommand_withResponse w (s.latch x) b d⟩
  obtain ⟨t, h⟩ := exec_answers i s
  obtain ⟨hstatus, -⟩ := exec_response h
  exact ⟨t, h, hstatus⟩

/-! ### The response table (R77) -/

/-- R77: what is read off RSP_DATA after a command is what is read off its entry of the table. -/
theorem answers_rspData {α : Type} (read : Word → α) {i : Instr} {s : State} {a : α}
    (h : read (responseData i s) = a) : Answers (exec i s) fun t => read t.rspData = a := by
  obtain ⟨t, ht⟩ := exec_answers i s
  obtain ⟨-, hdata⟩ := exec_response ht
  exact ⟨t, ht, (congrArg read hdata).trans h⟩

/-- R77, R101: an angle of the conversion is in the s32 range, so the response holds it exactly. -/
theorem toInt_pattern32_c2a (p : Params) (c : Int) : (pattern32 (c2a p c)).toInt = c2a p c :=
  s32_pattern32 (c2a_range p c)

/-- R77, R102. -/
theorem toInt_pattern32_a2c (p : Params) (a : Int) : (pattern32 (a2c p a)).toInt = a2c p a :=
  s32_pattern32 (a2c_range p a)

/-- R77, R113, R169: the angle of the logical count, as the response holds it. -/
theorem toInt_currentAngle (s : State) :
    (pattern32 (c2a s.params s.qdLogical)).toInt = c2a s.params (s.qdRaw - s.qdOffset).toInt := by
  rw [toInt_pattern32_c2a, qdLogical_eq]

/-- R11: zero extension keeps a code's number. -/
theorem toNat_zext32 (c : BitVec 2) : (zext32 c).toNat = c.toNat :=
  BitVec.toNat_setWidth_of_le (by decide)

/-- Settles O12, row by row: an entry the table gives as it stands, or one whose number a lemma above gives. -/
theorem responseDataTable : Obligations.ResponseDataTable := by
  intro s d v n f
  exact
    ⟨answers_rspData id rfl, answers_rspData id rfl, answers_rspData id rfl, answers_rspData id rfl,
      answers_rspData id rfl,
      answers_rspData id (pattern32_qdLogical s),
      answers_rspData BitVec.toInt (toInt_pattern32_c2a _ _),
      answers_rspData BitVec.toInt (toInt_pattern32_a2c _ _),
      answers_rspData BitVec.toInt (toInt_currentAngle s),
      answers_rspData id rfl, answers_rspData id rfl, answers_rspData id rfl, answers_rspData id rfl,
      answers_rspData BitVec.toNat (toNat_zext32 _),
      answers_rspData id rfl, answers_rspData id rfl, answers_rspData id rfl, answers_rspData id rfl,
      answers_rspData id rfl, answers_rspData id rfl, answers_rspData id rfl,
      answers_rspData BitVec.toInt (toInt_currentAngle s),
      answers_rspData BitVec.toNat (toNat_zext32 _)⟩

/-! ### The command a step runs (R71) -/

/-- R71: idle edges are passed over. -/
theorem firstActive_append_of_idle {idle : List Edge} (h : ∀ e ∈ idle, e.rst = false ∧ e.cmdValid = false)
    (es : List Edge) : firstActive (idle ++ es) = firstActive es := by
  induction idle with
  | nil => rfl
  | cons e idle ih =>
    obtain ⟨⟨hr, hv⟩, hidle⟩ := List.forall_mem_cons.mp h
    rw [List.cons_append, firstActive_cons_idle (by simp [Edge.active, hr, hv]), ih hidle]

/-- R71: with idle edges before an active one, a step is what the active edge does. -/
theorem step_of_idle_append {s : State} {idle rest : List Edge} {e : Edge}
    (hidle : ∀ d ∈ idle, d.rst = false ∧ d.cmdValid = false) (hactive : e.rst = true ∨ e.cmdValid = true)
    (hpending : s.pending = idle ++ e :: rest) : step s = clockEdge e { s with pending := rest } := by
  have hfirst : firstActive s.pending = some (e, rest) := by
    rw [hpending, firstActive_append_of_idle hidle]
    exact firstActive_cons_active (by simpa [Edge.active] using hactive) rest
  rw [step, takeEdge_of_some hfirst]

/-- R71: an edge that accepts a command samples the inputs and runs it. -/
theorem clockEdge_of_command {e : Edge} {i : Instr} (hrst : e.rst = false) (hvalid : e.cmdValid = true)
    (h : decode e.cmd = .ok i) (s : State) : clockEdge e s = exec i (s.latch e.sample) := by
  simp only [clockEdge, hrst, hvalid, Bool.false_eq_true, if_false, if_true, runCommand_of_ok h]

theorem clockEdge_of_idle {e : Edge} (hrst : e.rst = false) (hvalid : e.cmdValid = false) (s : State) :
    clockEdge e s = .next s := by
  simp only [clockEdge, hrst, hvalid, Bool.false_eq_true, if_false]

/-- Settles O5: the step is the active edge's, and that edge, when it is no reset, accepts the command it presents. -/
theorem stepRunsTheAcceptedCommand : Obligations.StepRunsTheAcceptedCommand := by
  refine ⟨fun s idle rest e hidle hactive hpending => ?_, fun e s hrst hvalid => clockEdge_of_idle hrst hvalid s⟩
  have hstep := step_of_idle_append hidle hactive hpending
  refine ⟨hstep, fun i hrst hdecode => ?_⟩
  have hvalid : e.cmdValid = true := hactive.resolve_left (by simp [hrst])
  rw [hstep, clockEdge_of_command hrst hvalid hdecode]
  rfl

end Sys2Proof.Machine

/-! Proofs about the decoder (spec/40_decoder.md): what each decoder command does, the count over runs of QD_UPDATE, and
the two angle conversions. -/

namespace Sys2Proof.Machine

open Sys2Proof.Safety

/-! ### The count and its reference (R105 to R110) -/

/-- Settles O14: R105's writes are the model's own, on every operand. -/
theorem qdInitSeedsAndClears : Obligations.QdInitSeedsAndClears :=
  ⟨fun _ _ _ => rfl, fun _ => rfl⟩

/-- R108: QD_GET_COUNT responds with the register difference and does nothing else. -/
theorem exec_qdGetCount (s : State) : exec .qdGetCount s = .next (s.respond (s.qdRaw - s.qdOffset)) := by
  rw [← pattern32_qdLogical]
  rfl

theorem qdGetCount_answers (s : State) : Answers (exec .qdGetCount s) fun t => t.rspData = s.qdRaw - s.qdOffset :=
  ⟨_, exec_qdGetCount s, rfl⟩

/-- Settles O19: QD_GET_RAW responds with the register itself, QD_GET_COUNT by `exec_qdGetCount`. -/
theorem qdCountReads : Obligations.QdCountReads :=
  ⟨fun _ _ _ => ⟨rfl, rfl⟩, fun s => ⟨rfl, exec_qdGetCount s⟩⟩

/-- R110: QD_SET_OFFSET stores its operand's bit pattern. -/
theorem exec_qdSetOffset (v : Word) (s : State) :
    exec (.qdSetOffset v) s = .next ({ s with qdOffset := v }.respond 0#32) := by
  simp only [exec, execQdSetOffset, operandS32, pattern32_s32]

/-- Settles O20: each command writes QD_OFFSET alone, and the count read after it is the difference with what it wrote. -/
theorem qdReferenceCommands : Obligations.QdReferenceCommands := by
  refine ⟨fun _ _ _ => ⟨rfl, rfl⟩, fun s v => ⟨rfl, exec_qdSetOffset v s, ⟨_, rfl, ?_⟩, _, exec_qdSetOffset v s, ?_⟩⟩
  · simpa using qdGetCount_answers (s.qdZeroHere.respond 0#32)
  · exact qdGetCount_answers _

/-! ### One decode step (R100, R106, R114) -/

/-- R106: QD_UPDATE adds the table's entry to the register and stores the sampled phase state. -/
theorem exec_qdUpdate (s : State) : exec .qdUpdate s = .next
    ({ s with qdRaw := s.qdRaw + BitVec.ofInt 32 (lut (s.qdPrev ++ s.phaseNow)), qdPrev := s.phaseNow }.respond 0#32) := by
  simp only [exec, execQdUpdate, pattern32_wrap32, pattern32_add]
  rfl

/-- Settles O15, with the values of the table from `lut_values`. -/
theorem qdUpdateAddsTheLutEntry : Obligations.QdUpdateAddsTheLutEntry :=
  ⟨fun _ _ _ => rfl, fun s => ⟨lut_values _, exec_qdUpdate s⟩⟩

/-- R52(a): the entry is 0 where nothing moved and where both bits changed. -/
theorem lut_of_noise {p c : BitVec 2} (h : c = p ∨ c = p ^^^ 3#2) : lut (p ++ c) = 0 := by
  rw [lut_eq_zero_iff]
  rcases h with rfl | rfl
  · exact .inl rfl
  · exact .inr (by rw [← BitVec.xor_assoc, BitVec.xor_self, BitVec.zero_xor])

/-- Settles O16: the entry added is 0. -/
theorem qdUpdateIgnoresNoise : Obligations.QdUpdateIgnoresNoise := by
  intro s hnoise
  exact ⟨_, exec_qdUpdate s, by simp [lut_of_noise hnoise], rfl⟩

/-! ### Runs of QD_UPDATE (R115) -/

/-- The phase state a sequence of samples ends in, from the phase state p. -/
def phaseAfter (p : BitVec 2) : List Sample → BitVec 2
  | [] => p
  | x :: xs => phaseAfter (phaseState x.phaseA x.phaseB) xs

/-- R115: a run of QD_UPDATE adds the sum of its entries, ends with the last phase state in QD_PREV, and leaves QD_OFFSET,
the generator and the controller alone. -/
theorem runCommands_decodeSteps (xs : List Sample) (s : State) :
    Answers (runCommands (decodeSteps xs) s) fun t =>
      t.qdRaw = s.qdRaw + BitVec.ofInt 32 (lutSum s.qdPrev xs) ∧ t.qdPrev = phaseAfter s.qdPrev xs ∧
      t.qdOffset = s.qdOffset ∧ SamePg s t ∧ SamePc s t := by
  induction xs generalizing s with
  | nil => exact ⟨s, rfl, by simp [lutSum], rfl, rfl, samePg_refl s, rfl, rfl⟩
  | cons x xs ih =>
    have hstep := exec_qdUpdate (s.latch x)
    have hrun : runCommands (decodeSteps (x :: xs)) s = _ :=
      runCommands_cons (decode_encode .qdUpdate) hstep (decodeSteps xs)
    obtain ⟨t, ht, hraw, hprev, hoffset, hpg, hpc⟩ := ih _
    refine ⟨t, hrun.trans ht, ?_, hprev, hoffset, hpg, hpc⟩
    rw [hraw, lutSum, BitVec.ofInt_add, ← BitVec.add_assoc]
    rfl

theorem phaseAfter_append (p : BitVec 2) (xs ys : List Sample) :
    phaseAfter p (xs ++ ys) = phaseAfter (phaseAfter p xs) ys := by
  induction xs generalizing p with
  | nil => rfl
  | cons x xs ih => exact ih _

theorem lutSum_append (p : BitVec 2) (xs ys : List Sample) :
    lutSum p (xs ++ ys) = lutSum p xs + lutSum (phaseAfter p xs) ys := by
  induction xs generalizing p with
  | nil => simp [lutSum, phaseAfter]
  | cons x xs ih => simp only [List.cons_append, lutSum, phaseAfter, ih, add_assoc]

/-- A cycle from p, gone through k times, ends in p and sums k times its entries. -/
theorem lutSum_replicate {p : BitVec 2} {cycle : List Sample} (h : phaseAfter p cycle = p) (k : Nat) :
    phaseAfter p (List.replicate k cycle).flatten = p ∧
      lutSum p (List.replicate k cycle).flatten = k * lutSum p cycle := by
  induction k with
  | zero => simp [phaseAfter, lutSum]
  | succ k ih =>
    obtain ⟨hphase, hsum⟩ := ih
    rw [List.replicate_succ, List.flatten_cons, phaseAfter_append, lutSum_append, h, hsum]
    exact ⟨hphase, by push_cast; ring⟩

/-- R115: k rounds of a cycle add k times the sum of its entries. -/
theorem runCommands_cycles {s : State} {cycle : List Sample} (h : phaseAfter s.qdPrev cycle = s.qdPrev) (k : Nat) :
    Answers (runCommands (decodeSteps (List.replicate k cycle).flatten) s) fun t =>
      t.qdRaw = s.qdRaw + BitVec.ofInt 32 (k * lutSum s.qdPrev cycle) ∧ t.qdPrev = s.qdPrev := by
  obtain ⟨hphase, hsum⟩ := lutSum_replicate h k
  obtain ⟨t, ht, hraw, hprev, -⟩ := runCommands_decodeSteps (List.replicate k cycle).flatten s
  exact ⟨t, ht, by rw [hraw, hsum], hprev.trans hphase⟩

theorem lutSum_cleanCycle : lutSum 0#2 cleanCycle = 4 := by decide

theorem lutSum_reverseCycle : lutSum 0#2 reverseCycle = -4 := by decide

/-- Settles O18: the sum over any run, and the two cycles' sums 4 and -4, k times over. -/
theorem qdUpdateSequencesSumTheTable : Obligations.QdUpdateSequencesSumTheTable := by
  refine ⟨fun s xs => ?_, fun s k h0 => ?_, fun s k h0 => ?_⟩
  · obtain ⟨t, ht, hraw, -, hframe⟩ := runCommands_decodeSteps xs s
    exact ⟨t, ht, hraw, hframe⟩
  · obtain ⟨t, ht, hraw, hprev⟩ := runCommands_cycles (cycle := cleanCycle) (s := s) (by rw [h0]; decide) k
    refine ⟨t, ht, ?_, hprev.trans h0⟩
    rw [hraw, h0, lutSum_cleanCycle, mul_comm, ← BitVec.ofInt_natCast]
    rfl
  · obtain ⟨t, ht, hraw, hprev⟩ := runCommands_cycles (cycle := reverseCycle) (s := s) (by rw [h0]; decide) k
    refine ⟨t, ht, ?_, hprev.trans h0⟩
    rw [hraw, h0, lutSum_reverseCycle, mul_neg, BitVec.ofInt_neg, ← BitVec.sub_eq_add_neg, mul_comm,
      ← BitVec.ofInt_natCast]
    rfl

/-! ### Angle conversions (R101, R102, R111 to R113) -/

/-- R101, R111: QD_COUNT_TO_ANGLE responds with c2a and does nothing else. -/
theorem exec_qdCountToAngle (v : Word) (s : State) :
    exec (.qdCountToAngle v) s = .next (s.respond (pattern32 (c2a s.params v.toInt))) := rfl

/-- R102, R112: QD_ANGLE_TO_COUNT responds with a2c and does nothing else. -/
theorem exec_qdAngleToCount (v : Word) (s : State) :
    exec (.qdAngleToCount v) s = .next (s.respond (pattern32 (a2c s.params v.toInt))) := rfl

/-- R101, in the library's terms. -/
theorem c2a_eq (p : Params) (c : Int) :
    c2a p c = max (-2147483648) (min 2147483647 (Int.tdiv (c * 23592960) p.ppr)) := by
  rw [c2a, sat32_eq, tdiv_eq_tdiv, Config.kAngle]

/-- R102, in the library's terms. -/
theorem a2c_eq (p : Params) (a : Int) :
    a2c p a = max (-2147483648) (min 2147483647 (Int.tdiv (a * p.ppr) 23592960)) := by
  rw [a2c, a2cExact, sat32_eq, tdiv_eq_tdiv, Config.kAngle]

/-- A dividend below b divisors in magnitude has a quotient below b in magnitude. -/
theorem natAbs_tdiv_lt {x y : Int} {b : Nat} (hy : y ≠ 0) (h : x.natAbs < b * y.natAbs) : (x.tdiv y).natAbs < b := by
  rw [Int.natAbs_tdiv]
  exact (Nat.div_lt_iff_lt_mul (Int.natAbs_pos.mpr hy)).mpr h

/-- R101: saturation happens only when |c| * K_ANGLE / PPR >= 2^31. -/
theorem c2a_of_natAbs_lt {p : Params} {c : Int} (h : c.natAbs * 23592960 < 2147483648 * p.ppr) :
    c2a p c = Int.tdiv (c * 23592960) p.ppr := by
  have hquot : (Int.tdiv (c * 23592960) p.ppr).natAbs < 2147483648 :=
    natAbs_tdiv_lt (ppr_pos p).ne' (by rw [Int.natAbs_mul]; exact h)
  rw [c2a_eq]
  omega

theorem c2a_zero (p : Params) : c2a p 0 = 0 := by
  simp [c2a_eq]

/-- R112: an angle below K_ANGLE / PPR is less than one count. -/
theorem a2c_of_natAbs_lt {p : Params} {a : Int} (h : a.natAbs * p.ppr < 23592960) : a2c p a = 0 := by
  have hquot : (Int.tdiv (a * p.ppr) 23592960).natAbs < 1 :=
    natAbs_tdiv_lt (by decide) (by rw [Int.natAbs_mul]; exact h)
  rw [a2c_eq]
  omega

/-- Settles O21, by `c2a_eq` and its two special cases. -/
theorem countToAngleResult : Obligations.CountToAngleResult := by
  refine ⟨fun _ _ _ => rfl, fun s v => ⟨by rw [← c2a_eq]; rfl, _, exec_qdCountToAngle v s, fun h => ?_, ?_⟩⟩
  · exact (toInt_pattern32_c2a s.params v.toInt).trans (c2a_of_natAbs_lt h)
  · rintro rfl
    exact congrArg pattern32 (c2a_zero s.params)

/-- Settles O22, by `a2c_eq` and its case below one count. -/
theorem angleToCountResult : Obligations.AngleToCountResult := by
  refine ⟨fun _ _ _ => rfl, fun s v => ⟨by rw [← a2c_eq]; rfl, _, exec_qdAngleToCount v s, fun h => ?_⟩⟩
  exact congrArg pattern32 (a2c_of_natAbs_lt h)

/-- Settles O23: both commands respond with the angle of the logical count. -/
theorem currentAngleReads : Obligations.CurrentAngleReads := by
  refine ⟨fun _ _ _ => ⟨rfl, rfl⟩, fun s => ⟨?_, rfl⟩⟩
  rw [← qdLogical_eq]
  rfl

/-! ### Angle to count and back (R116) -/

/-- R102: for P ≤ K the scaled quotient lies between 0 and the dividend. -/
theorem tdiv_mul_between {a P K : Int} (hP : 0 ≤ P) (hK : 0 < K) (hPK : P ≤ K) :
    min a 0 ≤ tdiv (a * P) K ∧ tdiv (a * P) K ≤ max a 0 := by
  have nonneg {b : Int} (hb : 0 ≤ b) : 0 ≤ tdiv (b * P) K ∧ tdiv (b * P) K ≤ b := by
    obtain ⟨h0, hle, -⟩ := tdiv_nonneg (mul_nonneg hb hP) hK
    exact ⟨h0, le_of_mul_le_mul_right (hle.trans (mul_le_mul_of_nonneg_left hPK hb)) hK⟩
  rcases le_total 0 a with ha | ha
  · have := nonneg ha
    omega
  · have := nonneg (neg_nonneg.mpr ha)
    rw [neg_mul, tdiv_neg] at this
    omega

/-- R116: an angle a converted to counts, P of them for each K of angle, and back, with nothing saturated. -/
def exactRoundTrip (P K a : Int) : Int :=
  tdiv (tdiv (a * P) K * K) P

theorem exactRoundTrip_neg (P K a : Int) : exactRoundTrip P K (-a) = -exactRoundTrip P K a := by
  simp only [exactRoundTrip, neg_mul, tdiv_neg]

/-- R116 for a nonnegative a: each of the two roundings loses less than one unit of its quotient. -/
theorem exactRoundTrip_of_nonneg {P K a : Int} (hP : 0 < P) (hK : 0 < K) (ha : 0 ≤ a) :
    0 ≤ exactRoundTrip P K a ∧ exactRoundTrip P K a ≤ a ∧ (a - exactRoundTrip P K a) * P < K + P := by
  obtain ⟨hn, hn_le, hn_lt⟩ := tdiv_nonneg (mul_nonneg ha hP.le) hK
  obtain ⟨hm, hm_le, hm_lt⟩ := tdiv_nonneg (mul_nonneg hn hK.le) hP
  unfold exactRoundTrip
  exact ⟨hm, le_of_mul_le_mul_right (hm_le.trans hn_le) hP, by linarith⟩

/-- R116: the round trip keeps the sign, gains no magnitude, and loses less than K / P + 1; below 0 because rounding
toward zero commutes with negation. -/
theorem exactRoundTrip_bounds {P K : Int} (hP : 0 < P) (hK : 0 < K) (a : Int) :
    (0 ≤ a → 0 ≤ exactRoundTrip P K a ∧ exactRoundTrip P K a ≤ a) ∧
    (a ≤ 0 → a ≤ exactRoundTrip P K a ∧ exactRoundTrip P K a ≤ 0) ∧
    ((a.natAbs : Int) - (exactRoundTrip P K a).natAbs) * P < K + P := by
  rcases le_total 0 a with ha | ha
  · obtain ⟨h0, hle, hloss⟩ := exactRoundTrip_of_nonneg hP hK ha
    refine ⟨fun _ => ⟨h0, hle⟩, fun _ => by omega, ?_⟩
    rwa [Int.natAbs_of_nonneg ha, Int.natAbs_of_nonneg h0]
  · obtain ⟨h0, hle, hloss⟩ := exactRoundTrip_of_nonneg hP hK (neg_nonneg.mpr ha)
    rw [exactRoundTrip_neg] at h0 hle hloss
    refine ⟨fun _ => by omega, fun _ => by omega, ?_⟩
    rwa [Int.ofNat_natAbs_of_nonpos ha, Int.ofNat_natAbs_of_nonpos (by omega)]

/-- R116: an angle in the s32 range comes back unsaturated, since the round trip gains no magnitude. -/
theorem c2a_a2cExact (p : Params) {a : Int} (ha : -2147483648 ≤ a ∧ a ≤ 2147483647) :
    c2a p (a2cExact p a) = exactRoundTrip p.ppr Config.kAngle a := by
  obtain ⟨hpos, hneg, -⟩ := exactRoundTrip_bounds (ppr_pos p) kAngle_pos a
  exact sat32_of_range (x := exactRoundTrip p.ppr Config.kAngle a) (by omega)

/-- R102: with at most K_ANGLE counts per revolution, the exact count of a 32-bit angle fits in 32 bits. -/
theorem a2cExact_range {p : Params} (hppr : p.ppr ≤ 23592960) (v : Word) :
    -2147483648 ≤ a2cExact p v.toInt ∧ a2cExact p v.toInt ≤ 2147483647 := by
  obtain ⟨hlo, hhi⟩ := tdiv_mul_between (a := v.toInt) (ppr_pos p).le kAngle_pos (Int.ofNat_le.mpr hppr)
  obtain ⟨hvlo, hvhi⟩ : -2147483648 ≤ v.toInt ∧ v.toInt ≤ 2147483647 := s32_range v
  rw [a2cExact]
  omega

/-- R116: where the count does not saturate, the two conversions in a row are the two exact quotients. -/
theorem toInt_roundTrip (p : Params) (v : Word)
    (hcount : -2147483648 ≤ a2cExact p v.toInt ∧ a2cExact p v.toInt ≤ 2147483647) :
    (pattern32 (c2a p (pattern32 (a2c p v.toInt)).toInt)).toInt =
      exactRoundTrip p.ppr Config.kAngle v.toInt := by
  rw [toInt_pattern32_c2a, toInt_pattern32_a2c, a2c, sat32_of_range hcount, c2a_a2cExact p (s32_range v)]

/-- Settles O24: `a2cExact_range` for its first part; for the second, the two commands answer the two exact quotients, to
which `exactRoundTrip_bounds` applies. -/
theorem angleRoundTripLosesLessThanOneCount : Obligations.AngleRoundTripLosesLessThanOneCount := by
  intro s v n
  have hn : a2cExact s.params v.toInt = n := tdiv_eq_tdiv _ _
  refine ⟨fun hppr => hn ▸ a2cExact_range hppr v,
    fun hlo hhi => ⟨_, exec_qdAngleToCount v s, _, exec_qdCountToAngle _ _, ?_⟩⟩
  simp only [State.respond_rspData, State.respond_params, toInt_roundTrip s.params v (hn ▸ ⟨hlo, hhi⟩)]
  exact exactRoundTrip_bounds (ppr_pos s.params) kAngle_pos v.toInt

end Sys2Proof.Machine

/-! Proofs about the pulse generator (spec/41_pulse_generator.md): what each generator command does, the generator's
state machine over all commands, and runs of PG_UPDATE. -/

namespace Sys2Proof.Machine

open Sys2Proof.Safety

/-! ### The half-cycle interval (R130) -/

/-- R130: from 500001 Hz on the quotient is 0, so the lower bound 1 applies. -/
theorem pgIntervalOf_of_large {f : Nat} (h : 500001 ≤ f) : pgIntervalOf f = 1 := by
  have hquot : 1000000 / (2 * f) = 0 := Nat.div_eq_of_lt (by omega)
  rw [pgIntervalOf, if_neg (by omega), hquot]
  rfl

/-- R130: up to 500000 Hz the lower bound 1 does not apply. -/
theorem pgIntervalOf_of_mid {f : Nat} (hlo : 1 ≤ f) (hhi : f ≤ 500000) : pgIntervalOf f = 1000000 / (2 * f) := by
  have hpos : 1 ≤ 1000000 / (2 * f) := Nat.div_pos (by omega) (by omega)
  rw [pgIntervalOf, if_neg (by omega), max_eq_right hpos]

/-- Settles O25: PG_START stores `pgIntervalOf`, which is 1 or a floor quotient. -/
theorem halfCycleInterval : Obligations.HalfCycleInterval := by
  intro s d n f
  refine ⟨_, rfl, ?_⟩
  simp only [State.respond_pgInterval, State.pgStart_pgInterval, pgIntervalOf_toNat, operandU32, u32]
  refine ⟨pgIntervalOf_range _, fun h0 => by simp [pgIntervalOf, h0], pgIntervalOf_of_large, fun hlo hhi => ?_⟩
  rw [pgIntervalOf_of_mid hlo hhi]
  exact ⟨Nat.div_mul_le_self _ _, Nat.lt_mul_of_div_lt (Nat.lt_succ_self _) (by omega)⟩

/-! ### Starting, stopping and initialising a session (R131, R132, R135 to R137) -/

/-- R132: the state a start leaves, by the number of pulses requested. -/
theorem startState_toNat (n : Word) : (if n = 0#32 then PgState.complete else .running) =
    if n.toNat = 0 then .complete else .running :=
  if_congr BitVec.toNat_eq rfl rfl

/-- Settles O26: PG_START's writes are the model's own, its state read by the number of pulses. -/
theorem pgStartOpensASession : Obligations.PgStartOpensASession := by
  refine ⟨fun _ _ _ => rfl, fun s d n f => ?_⟩
  rw [← startState_toNat]
  rfl

/-- Settles O27: PG_STOP's writes are the model's own. -/
theorem pgStopForcesIdle : Obligations.PgStopForcesIdle :=
  ⟨fun _ _ _ => rfl, fun _ => rfl⟩

/-- Settles O28: PG_INIT writes the values `State.reset` holds. -/
theorem pgInitRestoresResetValues : Obligations.PgInitRestoresResetValues :=
  ⟨fun _ _ _ => rfl, fun _ => rfl⟩

/-! ### One poll (R133, R138) -/

/-- R133: a poll at `now` makes a transition. -/
abbrev PollDue (s : State) (now : Word) : Prop :=
  s.pgState = .running ∧ s.pgInterval.toNat ≤ (now - s.pgLastT).toNat

theorem pgUpdate_of_not_due {s : State} {now : Word} (h : ¬ PollDue s now) : s.pgUpdate now = s := by
  rcases pgUpdate_cases s now with ⟨-, e⟩ | ⟨-, -, e⟩ | ⟨hrun, hdue, -⟩ | ⟨hrun, hdue, -⟩ | ⟨hrun, hdue, -⟩
  · exact e
  · exact e
  all_goals exact absurd ⟨hrun, hdue⟩ h

/-- R133: everything a due poll can do. -/
theorem pgUpdate_cases_of_due {s : State} {now : Word} (h : PollDue s now) :
    (s.pgLevel = false ∧ s.pgUpdate now = { s.drive true with pgLevel := true, pgLastT := now }) ∨
    (s.pgLevel = true ∧ (s.pgEmitted + 1#32).toNat < s.pgRequested.toNat ∧ s.pgUpdate now =
      { s.drive false with pgLevel := false, pgEmitted := s.pgEmitted + 1#32, pgLastT := now }) ∨
    (s.pgLevel = true ∧ s.pgRequested.toNat ≤ (s.pgEmitted + 1#32).toNat ∧ s.pgUpdate now =
      { s with outFwd := false, outRev := false, pgLevel := false, pgState := .complete,
               pgEmitted := s.pgEmitted + 1#32, pgLastT := now }) := by
  obtain ⟨hrun, hdue⟩ := h
  rcases pgUpdate_cases s now with ⟨hr, -⟩ | ⟨-, he, -⟩ | ⟨-, -, hrise⟩ | ⟨-, -, hfall⟩ | ⟨-, -, hlast⟩
  · exact absurd hrun hr
  · exact absurd hdue (Nat.not_le.mpr he)
  · exact .inl hrise
  · exact .inr (.inl hfall)
  · exact .inr (.inr hlast)

/-- R133, low to high. -/
theorem pgUpdate_of_low {s : State} {now : Word} (h : PollDue s now) (hlow : s.pgLevel = false) :
    s.pgUpdate now = { s.drive true with pgLevel := true, pgLastT := now } := by
  rcases pgUpdate_cases_of_due h with ⟨-, e⟩ | ⟨hhigh, -⟩ | ⟨hhigh, -⟩
  · exact e
  all_goals simp [hlow] at hhigh

theorem toNat_add_one {v : Word} (h : v.toNat + 1 < 4294967296) : (v + 1#32).toNat = v.toNat + 1 := by
  rw [BitVec.toNat_add]
  exact Nat.mod_eq_of_lt h

/-- R133, high to low with pulses left to emit. -/
theorem pgUpdate_of_high {s : State} {now : Word} (h : PollDue s now) (hhigh : s.pgLevel = true)
    (hleft : s.pgEmitted.toNat + 1 < s.pgRequested.toNat) : s.pgUpdate now =
      { s.drive false with pgLevel := false, pgEmitted := s.pgEmitted + 1#32, pgLastT := now } := by
  have hcount := toNat_add_one (hleft.trans s.pgRequested.isLt)
  rcases pgUpdate_cases_of_due h with ⟨hlow, -⟩ | ⟨-, -, e⟩ | ⟨-, hdone, -⟩
  · simp [hhigh] at hlow
  · exact e
  · omega

/-- R133, high to low at the last pulse. -/
theorem pgUpdate_of_last {s : State} {now : Word} (h : PollDue s now) (hhigh : s.pgLevel = true)
    (hlast : s.pgRequested.toNat ≤ s.pgEmitted.toNat + 1) (hfit : s.pgEmitted.toNat + 1 < 4294967296) :
    s.pgUpdate now =
      { s with outFwd := false, outRev := false, pgLevel := false, pgState := .complete,
               pgEmitted := s.pgEmitted + 1#32, pgLastT := now } := by
  have hcount := toNat_add_one hfit
  rcases pgUpdate_cases_of_due h with ⟨hlow, -⟩ | ⟨-, hleft, -⟩ | ⟨-, -, e⟩
  · simp [hhigh] at hlow
  · omega
  · exact e

/-- R133: a due poll inverts the level and takes its own time as that of the last transition. -/
theorem pgUpdate_inverts {s : State} {now : Word} (h : PollDue s now) :
    (s.pgUpdate now).pgLastT = now ∧ (s.pgUpdate now).pgLevel = !s.pgLevel := by
  rcases pgUpdate_cases_of_due h with ⟨hl, e⟩ | ⟨hl, -, e⟩ | ⟨hl, -, e⟩ <;> simp [e, hl]

theorem exec_pgUpdate (s : State) : exec .pgUpdate s = .next ((s.pgUpdate s.sample.timeUs).respond 0#32) := rfl

/-- Settles O29, by the four cases of a poll. -/
theorem pgUpdateMakesOneTransition : Obligations.PgUpdateMakesOneTransition := by
  refine ⟨fun _ _ _ => rfl, fun s => ?_⟩
  have hcount : BitVec.ofNat 32 (s.pgEmitted.toNat + 1) = s.pgEmitted + 1#32 := by
    rw [BitVec.ofNat_add, BitVec.ofNat_toNat, BitVec.setWidth_eq]
  simp only [exec_pgUpdate, hcount]
  refine ⟨fun hnot => ?_, fun hdue hlow => ?_, fun hdue hhigh hleft => ?_, fun hdue hhigh hlast hfit => ?_⟩
  · rw [pgUpdate_of_not_due hnot]; rfl
  · rw [pgUpdate_of_low hdue hlow, drive_eq]; rfl
  · rw [pgUpdate_of_high hdue hhigh hleft, drive_eq]; rfl
  · rw [pgUpdate_of_last hdue hhigh hlast hfit]; rfl

/-! ### The reads and the pulse count (R139, R140) -/

theorem zext32_pgState_code_ne (p : PgState) : zext32 p.code ≠ 3#32 := by
  cases p <;> decide

/-- R133: a poll leaves the count alone or, in a running session, adds one pulse. -/
theorem pgUpdate_pgEmitted (s : State) (now : Word) : (s.pgUpdate now).pgEmitted = s.pgEmitted ∨
    (s.pgState = .running ∧ (s.pgUpdate now).pgEmitted = s.pgEmitted + 1#32) := by
  by_cases hdue : PollDue s now
  · rcases pgUpdate_cases_of_due hdue with ⟨-, e⟩ | ⟨-, -, e⟩ | ⟨-, -, e⟩ <;> rw [e]
    · exact .inl (by rw [drive_eq])
    · exact .inr ⟨hdue.1, rfl⟩
    · exact .inr ⟨hdue.1, rfl⟩
  · exact .inl (by rw [pgUpdate_of_not_due hdue])

/-- R140: the command clears the count: it is PG_INIT or a start, by PG_START or by a PC_UPDATE that issues a burst. -/
def ClearsCount (i : Instr) (s t : State) : Prop :=
  t.pgEmitted = 0#32 ∧
    (i = .pgInit ∨ (∃ d n f, i = .pgStart d n f) ∨
      (i = .pcUpdate ∧ s.pcState = .moving ∧ t.pcState = .moving ∧ t.pgState = .running ∧
        t.pgLastT = s.sample.timeUs ∧ t.pgLevel = false ∧ t.outFwd = false ∧ t.outRev = false))

/-- R163, R167: a burst starts at once, since it is at least 10 pulses long. -/
theorem burstState_running (p : Params) (e : Int) :
    (if pattern32 (pcBurst p e) = 0#32 then PgState.complete else .running) = .running := by
  have hcount := u32_pcBurst p e
  have hrange := pcBurst_range p e
  refine if_neg fun h0 => ?_
  have hzero : (u32 0#32 : Int) = 0 := rfl
  rw [h0] at hcount
  omega

/-- R140: everything a command can do to the count: keep it, add the pulse a poll ends, or clear it. -/
theorem exec_pgEmitted {i : Instr} {s t : State} (h : exec i s = .next t) :
    t.pgEmitted = s.pgEmitted ∨ (s.pgState = .running ∧ t.pgEmitted = s.pgEmitted + 1#32) ∨ ClearsCount i s t := by
  have hpoll {u : State} (hu : u.pgEmitted = (s.pgUpdate s.now).pgEmitted) : u.pgEmitted = s.pgEmitted ∨
      (s.pgState = .running ∧ u.pgEmitted = s.pgEmitted + 1#32) ∨ ClearsCount i s u :=
    hu ▸ (pgUpdate_pgEmitted s s.now).imp_right .inl
  cases i
  case pgInit => cases h; exact .inr (.inr ⟨rfl, .inl rfl⟩)
  case pgStart d n f => cases h; exact .inr (.inr ⟨rfl, .inr (.inl ⟨d, n, f, rfl⟩)⟩)
  case pgUpdate => cases h; exact hpoll rfl
  case pcUpdate =>
    simp only [exec] at h
    rcases execPcUpdate_cases s with ⟨-, e⟩ | ⟨-, -, e⟩ | ⟨-, -, -, e⟩ | ⟨hmoving, -, -, e⟩ <;> rw [e] at h <;> cases h
    · exact .inl rfl
    · exact hpoll rfl
    · exact hpoll rfl
    · refine .inr (.inr ⟨rfl, .inr (.inr ⟨rfl, hmoving, ?_, burstState_running _ _, rfl, rfl, rfl, rfl⟩)⟩)
      simp [pgUpdate_frame, hmoving]
  all_goals cases h; exact .inl rfl

/-- Settles O30: the reads by the codes of PG_STATE; the last two clauses by `exec_pgEmitted`, where the invariants keep
a counted pulse from wrapping. -/
theorem pgReads : Obligations.PgReads := by
  refine ⟨fun _ _ _ => ⟨rfl, rfl⟩, fun s => ⟨?_, ⟨_, rfl, zext32_pgState_code_ne _⟩, rfl, ⟨_, rfl, rfl⟩, ?_⟩⟩
  · refine congrArg (fun d => Host.Outcome.next (s.respond d)) (?_ : zext32 s.pgState.code = _)
    cases s.pgState <;> rfl
  · intro i t h
    rcases exec_pgEmitted h with hkept | ⟨hrun, hsucc⟩ | hcleared
    · exact ⟨fun _ hchanged => absurd hkept hchanged, fun _ hless => absurd hless (by rw [hkept]; exact lt_irrefl _)⟩
    · refine ⟨fun hstopped => absurd hrun hstopped, fun hi hless => ?_⟩
      have hcount : t.pgEmitted.toNat = s.pgEmitted.toNat + 1 := hsucc ▸ hi.emitted_succ hrun
      omega
    · exact ⟨fun _ _ => hcleared, fun _ _ => hcleared⟩

/-! ### The generator's state machine (R134) -/

theorem outLine_drive (s : State) (v : Bool) : outLine (s.drive v) s.pgDir = v := by
  cases hd : s.pgDir <;> simp [State.drive, hd, outLine]

theorem outLine_drive_other (s : State) (v : Bool) :
    outLine (s.drive v) (otherDir s.pgDir) = outLine s (otherDir s.pgDir) := by
  cases hd : s.pgDir <;> simp [State.drive, hd, outLine, otherDir]

/-- Both lines are low exactly when the line of a direction and the other line are. -/
theorem low_iff_outLine (s : State) (d : Direction) :
    (outLine s d = false ∧ outLine s (otherDir d) = false) ↔ s.outFwd = false ∧ s.outRev = false := by
  cases d
  · exact Iff.rfl
  · exact And.comm

/-- R133: a due poll inverts the selected line with the level and leaves the other one low. -/
theorem pgUpdate_lines {s : State} {now : Word} (h : PollDue s now) (hother : outLine s (otherDir s.pgDir) = false) :
    outLine (s.pgUpdate now) s.pgDir = (!s.pgLevel) ∧ outLine (s.pgUpdate now) (otherDir s.pgDir) = false := by
  rcases pgUpdate_cases_of_due h with ⟨hl, e⟩ | ⟨hl, -, e⟩ | ⟨hl, -, e⟩ <;> rw [e, hl]
  · exact ⟨outLine_drive s true, (outLine_drive_other s true).trans hother⟩
  · exact ⟨outLine_drive s false, (outLine_drive_other s false).trans hother⟩
  · exact (low_iff_outLine _ _).mpr ⟨rfl, rfl⟩

/-- R133: the rise of the line counts no pulse and ends no session. -/
theorem pgUpdate_progress_of_low {s : State} {now : Word} (h : PollDue s now) (hlow : s.pgLevel = false) :
    (s.pgUpdate now).pgEmitted = s.pgEmitted ∧ (s.pgUpdate now).pgState = .running := by
  rw [pgUpdate_of_low h hlow, drive_eq]
  exact ⟨rfl, h.1⟩

/-- R133: the fall of the line counts a pulse, and the one requested last ends the session. -/
theorem pgUpdate_progress_of_high {s : State} {now : Word} (h : PollDue s now) (hhigh : s.pgLevel = true)
    (hleft : s.pgEmitted.toNat < s.pgRequested.toNat) :
    (s.pgUpdate now).pgEmitted.toNat = s.pgEmitted.toNat + 1 ∧
      (s.pgUpdate now).pgState = if s.pgEmitted.toNat + 1 = s.pgRequested.toNat then .complete else .running := by
  have hfit : s.pgEmitted.toNat + 1 < 4294967296 := lt_of_le_of_lt hleft s.pgRequested.isLt
  split_ifs with hlast
  · rw [pgUpdate_of_last h hhigh hlast.ge hfit]
    exact ⟨toNat_add_one hfit, rfl⟩
  · rw [pgUpdate_of_high h hhigh (by omega), drive_eq]
    exact ⟨toNat_add_one hfit, h.1⟩

/-- Settles O31, command by command: the polling rows by the cases of a poll, the rows of PC_UPDATE by its branches. -/
theorem generatorStateMachine : Obligations.GeneratorStateMachine := by
  intro i s t h
  cases i
  case pgInit | pgStop | pcHoming | pcEstop => cases h; exact ⟨rfl, rfl, rfl⟩
  case pgStart d n f => cases h; exact ⟨startState_toNat n, rfl, rfl⟩
  case pgUpdate =>
    have idle (hnot : ¬ PollDue s s.sample.timeUs) : SamePg s t := by
      rw [exec_pgUpdate, pgUpdate_of_not_due hnot] at h
      cases h
      exact samePg_refl s
    refine ⟨fun hstopped => idle fun hdue => hstopped hdue.1, fun _ hearly => idle fun hdue => hearly hdue.2, ?_, ?_⟩
      <;> cases h
    · intro hrun hdue hlow
      have hline : outLine (s.pgUpdate s.sample.timeUs) s.pgDir = true := by
        rw [pgUpdate_of_low ⟨hrun, hdue⟩ hlow]
        exact outLine_drive s true
      exact ⟨(pgUpdate_progress_of_low ⟨hrun, hdue⟩ hlow).2, hline⟩
    · intro hrun hdue hhigh hi
      have hlines := pgUpdate_lines ⟨hrun, hdue⟩ (hi.running_line hrun).2
      rw [hhigh] at hlines
      exact ⟨(pgUpdate_progress_of_high ⟨hrun, hdue⟩ hhigh (hi.running_emitted hrun)).2,
        (low_iff_outLine _ _).mp hlines⟩
  case pcUpdate =>
    have hpc : (s.pgUpdate s.now).pcState = s.pcState := by simp only [pgUpdate_frame]
    simp only [exec] at h
    rcases execPcUpdate_cases s with ⟨hstill, e⟩ | ⟨hm, -, e⟩ | ⟨hm, -, hrun, e⟩ | ⟨hm, -, hend, e⟩ <;>
      rw [e] at h <;> cases h
    · exact ⟨fun _ => samePg_refl s, fun hm => absurd hm hstill, fun _ hm => absurd hm hstill,
        fun _ hm => absurd hm hstill⟩
    · exact ⟨fun hstill => absurd hm hstill, fun _ _ => ⟨rfl, rfl, rfl⟩, fun _ _ hne => absurd rfl hne,
        fun _ _ hne => absurd rfl hne⟩
    · refine ⟨fun hstill => absurd hm hstill, fun _ harrived => ?_, fun u _ _ hu _ => ?_, fun u _ _ hu hstop => ?_⟩
      · simp [hpc, hm] at harrived
      · cases hu; exact samePg_refl _
      · cases hu; exact absurd hrun hstop
    · refine ⟨fun hstill => absurd hm hstill, fun _ harrived => ?_, fun u _ _ hu hrun => ?_, fun u _ _ hu _ => ?_⟩
      · simp [hpc, hm] at harrived
      · cases hu; exact absurd hrun hend
      · exact ⟨burstState_running _ _, rfl, rfl⟩
  all_goals cases h; exact samePg_refl _

/-! ### Runs of PG_UPDATE (R141, R142) -/

/-- The state a PG_UPDATE with the inputs y leaves. -/
def poll (s : State) (y : Sample) : State := ((s.pgUpdate y.timeUs).latch y).respond 0#32

theorem exec_pgUpdate_latch (s : State) (y : Sample) : exec .pgUpdate (s.latch y) = .next (poll s y) := by
  rw [exec_pgUpdate, State.latch_sample, pgUpdate_latch, poll]

/-- R58: a run of PG_UPDATE makes its polls one after the other. -/
theorem runCommands_polls (ys : List Sample) (s : State) : runCommands (polls ys) s = .next (ys.foldl poll s) := by
  induction ys generalizing s with
  | nil => rfl
  | cons y ys ih => exact (runCommands_cons (decode_encode .pgUpdate) (exec_pgUpdate_latch s y) (polls ys)).trans (ih _)

/-- R142: polls that are not due change no generator register. -/
theorem samePg_foldl_poll {s : State} {ys : List Sample} (h : ∀ y ∈ ys, ¬ PollDue s y.timeUs) :
    SamePg s (ys.foldl poll s) := by
  induction ys using List.reverseRecOn with
  | nil => exact samePg_refl s
  | append_singleton ys y ih =>
    have hpg : SamePg s (ys.foldl poll s) := ih fun z hz => h z (List.mem_append_left _ hz)
    have hpoll : SamePg (s.pgUpdate y.timeUs) ((ys.foldl poll s).pgUpdate y.timeUs) := pgUpdate_samePg hpg _
    rw [pgUpdate_of_not_due (h y (by simp))] at hpoll
    rw [List.foldl_append]
    exact hpoll

/-- Settles O33: the early polls leave the generator as it was, so the poll after them is due and inverts the level. -/
theorem transitionAtTheFirstDuePoll : Obligations.TransitionAtTheFirstDuePoll := by
  intro s early x hrun hearly hdue
  have hpg : SamePg s (early.foldl poll s) := samePg_foldl_poll fun y hy hd => Nat.not_le.mpr (hearly y hy) hd.2
  refine ⟨⟨_, runCommands_polls early s, hpg⟩, _, runCommands_polls _ s, ?_⟩
  obtain ⟨hstate, -, -, -, hinterval, hlevel, hlast, -⟩ := hpg
  have hdue' : PollDue (early.foldl poll s) x.timeUs :=
    ⟨hstate.trans hrun, by rw [hinterval, hlast]; exact hdue⟩
  rw [List.foldl_append, ← hlevel]
  exact pgUpdate_inverts hdue'

/-- R141: a burst of n pulses in direction d after k transitions, the last of them (or the start) at the sample x. -/
structure BurstAt (d : Direction) (n : Word) (interval : Nat) (x : Sample) (k : Nat) (s : State) : Prop where
  dir : s.pgDir = d
  requested : s.pgRequested = n
  interval : s.pgInterval.toNat = interval
  lastT : s.pgLastT = x.timeUs
  level : s.pgLevel = decide (k % 2 = 1)
  line : outLine s d = decide (k % 2 = 1)
  other : outLine s (otherDir d) = false
  emitted : s.pgEmitted.toNat = k / 2
  state : s.pgState = if k < 2 * n.toNat then .running else .complete

/-- The state a PG_START with the inputs x leaves. -/
def startSession (s : State) (d : Direction) (n f : Word) (x : Sample) : State :=
  ((s.latch x).pgStart d n f.toNat x.timeUs).respond 0#32

theorem exec_pgStart_latch (s : State) (d : Direction) (n f : Word) (x : Sample) :
    exec (.pgStart d n f) (s.latch x) = .next (startSession s d n f x) := rfl

/-- R132: the start of a burst of at least one pulse. -/
theorem burstAt_startSession {n : Word} (hn : n ≠ 0#32) (s : State) (d : Direction) (f : Word) (x : Sample) :
    BurstAt d n (pgIntervalOf f.toNat) x 0 (startSession s d n f x) where
  dir := rfl
  requested := rfl
  interval := pgIntervalOf_toNat f.toNat
  lastT := rfl
  level := rfl
  line := by cases d <;> rfl
  other := by cases d <;> rfl
  emitted := rfl
  state := by
    have hpos : n.toNat ≠ 0 := fun h0 => hn (BitVec.eq_of_toNat_eq h0)
    rw [if_pos (by omega)]
    exact if_neg hn

/-- R133: a due poll of an unfinished burst makes the next transition: up after an even number of them, down after an
odd number, and the last one completes the session. -/
theorem BurstAt.poll {d : Direction} {n : Word} {interval k : Nat} {x y : Sample} {s : State}
    (h : BurstAt d n interval x k s) (hk : k < 2 * n.toNat) (hdue : interval ≤ since x y) :
    BurstAt d n interval y (k + 1) (poll s y) := by
  obtain ⟨rfl, rfl, rfl, hlast, hlevel, -, hother, hemitted, hstate⟩ := h
  have hd : PollDue s y.timeUs := ⟨by rw [hstate, if_pos hk], by rw [hlast]; exact hdue⟩
  obtain ⟨-, -, -, hdir, hrequested, hinterval, -⟩ := pgUpdate_frame s y.timeUs
  obtain ⟨hnow, hinverted⟩ := pgUpdate_inverts hd
  obtain ⟨hline, hother'⟩ := pgUpdate_lines hd hother
  have hparity : (!s.pgLevel) = decide ((k + 1) % 2 = 1) := by
    rw [hlevel, ← decide_not]
    exact decide_eq_decide.mpr (by omega)
  have hprogress : (s.pgUpdate y.timeUs).pgEmitted.toNat = (k + 1) / 2 ∧
      (s.pgUpdate y.timeUs).pgState = if k + 1 < 2 * s.pgRequested.toNat then .running else .complete := by
    rcases Nat.mod_two_eq_zero_or_one k with heven | hodd
    · obtain ⟨hcount, hrunning⟩ := pgUpdate_progress_of_low hd (by simp [hlevel, heven])
      exact ⟨by rw [hcount, hemitted]; omega, by rw [hrunning, if_pos (by omega)]⟩
    · obtain ⟨hcount, hend⟩ := pgUpdate_progress_of_high hd (by simp [hlevel, hodd]) (by omega)
      refine ⟨by omega, ?_⟩
      by_cases hleft : k + 1 < 2 * s.pgRequested.toNat
      · rw [hend, if_pos hleft, if_neg (by omega)]
      · rw [hend, if_neg hleft, if_pos (by omega)]
  exact ⟨hdir, hrequested, congrArg BitVec.toNat hinterval, hnow, hinverted.trans hparity, hline.trans hparity,
    hother', hprogress.1, hprogress.2⟩

/-- R141: polls each at least an interval after the one before make one transition each, up to 2n of them. -/
theorem BurstAt.foldl_poll {d : Direction} {n : Word} {interval k : Nat} {x : Sample} {s : State} {ys : List Sample}
    (h : BurstAt d n interval x k s) (hk : k + ys.length ≤ 2 * n.toNat)
    (hchain : (x :: ys).IsChain (interval ≤ since · ·)) :
    ∃ z, BurstAt d n interval z (k + ys.length) (ys.foldl Machine.poll s) := by
  induction ys generalizing x k s with
  | nil => exact ⟨x, h⟩
  | cons y ys ih =>
    obtain ⟨hdue, hrest⟩ := List.isChain_cons_cons.mp hchain
    rw [List.length_cons] at hk ⊢
    rw [Nat.add_comm ys.length, ← Nat.add_assoc]
    exact ih (h.poll (by omega) hdue) (by omega) hrest

/-- Settles O32: the start opens a burst, k polls make k transitions of it (`BurstAt.foldl_poll`), and after all 2n of
them no poll is due. -/
theorem burstEmitsExactlyTheRequestedPulses : Obligations.BurstEmitsExactlyTheRequestedPulses := by
  intro s d n f x ys zs hn hlen hspaced
  have hchain : (x :: ys).IsChain (pgIntervalOf f.toNat ≤ since · ·) :=
    List.isChain_iff_getElem.mpr fun j hj => hspaced j (by simpa using hj)
  have hrun (ws : List Sample) : runCommands ((.pgStart d n f, x) :: polls ws) s =
      .next (ws.foldl poll (startSession s d n f x)) :=
    (runCommands_cons (decode_encode _) (exec_pgStart_latch s d n f x) (polls ws)).trans (runCommands_polls ws _)
  have hburst {k : Nat} (hk : k ≤ 2 * n.toNat) :
      ∃ z, BurstAt d n (pgIntervalOf f.toNat) z k ((ys.take k).foldl poll (startSession s d n f x)) := by
    have hk' : 0 + (ys.take k).length = k := by simp; omega
    have h := (burstAt_startSession hn s d f x).foldl_poll (hk'.trans_le hk) (hchain.take (k + 1))
    rwa [hk'] at h
  refine ⟨fun k hk => ?_, _, hrun ys, _, hrun (ys ++ zs), ?_⟩
  · obtain ⟨z, h⟩ := hburst hk
    exact ⟨_, hrun _, h.line, h.other, h.emitted, h.state⟩
  · obtain ⟨z, h⟩ := hburst le_rfl
    rw [← hlen, List.take_length] at h
    rw [List.foldl_append]
    refine samePg_foldl_poll fun y _ hdue => ?_
    have hcomplete := h.state
    simp [hdue.1, hlen] at hcomplete

end Sys2Proof.Machine

/-! Proofs about the position controller (spec/42_position_controller.md): what each controller command does, the
controller's state machine over all commands, and its runs with a stalled actuator and under the ideal plant. -/

namespace Sys2Proof.Machine

open Sys2Proof.Safety

/-! ### Commands that poll nothing (R165, R166, R168, R170 to R172) -/

/-- Settles O34: PC_INIT's writes are the model's own. -/
theorem pcInitTouchesOnlyTheController : Obligations.PcInitTouchesOnlyTheController :=
  ⟨fun _ _ _ => rfl, fun _ => rfl⟩

/-- R166, in the library's terms. -/
theorem exec_pcSetTarget (v : Word) (s : State) : exec (.pcSetTarget v) s = .next
    ({ s with
      pcTarget := pattern32 (max (-(s.params.maxAngleQ : Int)) (min s.params.maxAngleQ v.toInt))
      pcState := .moving }.respond 0#32) := by
  rw [← clamp_eq (by omega)]
  rfl

/-- Settles O35: the stored target is the clamped operand, in range by `targetInRange_clamp`, and an operand in range is
its own clamp. -/
theorem pcSetTargetClampsAndMoves : Obligations.PcSetTargetClampsAndMoves := by
  refine ⟨fun _ _ _ => rfl, fun s v => ⟨exec_pcSetTarget v s, _, rfl, targetInRange_clamp rfl, fun hlo hhi => ?_⟩⟩
  exact (congrArg pattern32 (clamp_of_range ⟨hlo, hhi⟩)).trans (pattern32_s32 v)

/-- Settles O37: the target as the register holds it, in range by I6, and the state by its code. -/
theorem pcReads : Obligations.PcReads := by
  refine ⟨fun _ _ _ => ⟨rfl, rfl⟩, fun s => ⟨rfl, Inv.target_range, ?_⟩⟩
  refine congrArg (fun d => Host.Outcome.next (s.respond d)) (?_ : zext32 s.pcState.code = _)
  cases s.pcState <;> rfl

/-- Settles O38: PC_HOMING's writes are the model's own, and with QD_OFFSET = QD_RAW the count is 0. -/
theorem pcHomingMakesHereZero : Obligations.PcHomingMakesHereZero := by
  refine ⟨fun _ _ _ => rfl, fun s => ⟨rfl, _, rfl, ?_⟩⟩
  obtain ⟨u, hu, hcount⟩ := qdGetCount_answers
    ({ s.pgStop.qdZeroHere with pcTarget := 0#32, pcState := .idle }.respond 0#32)
  exact ⟨u, hu, hcount.trans (BitVec.sub_self s.qdRaw)⟩

/-- Settles O39: PC_ESTOP's writes are the model's own. -/
theorem pcEstopStopsAndEntersError : Obligations.PcEstopStopsAndEntersError :=
  ⟨fun _ _ _ => rfl, fun _ => rfl⟩

/-! ### The error, the tolerance and the burst (R160 to R163) -/

theorem pcError_eq (s : State) : s.pcError = s.pcTarget.toInt - c2a s.params (s.qdRaw - s.qdOffset).toInt := by
  rw [State.pcError, State.pcCurrent, qdLogical_eq]

/-- R160: the error is a function of the count, the target and the parameters. -/
theorem pcError_congr {s t : State} (hqd : SameQd s t) (htarget : t.pcTarget = s.pcTarget)
    (hparams : t.params = s.params) : t.pcError = s.pcError := by
  obtain ⟨-, hraw, hoffset⟩ := hqd
  rw [pcError_eq, pcError_eq, hraw, hoffset, htarget, hparams]

/-- R160: the error fits in 33 bits with its sign. -/
theorem natAbs_pcError_le (s : State) : s.pcError.natAbs ≤ 4294967295 := by
  have htarget := s32_range s.pcTarget
  have hcurrent := c2a_range s.params s.qdLogical
  rw [State.pcError, State.pcCurrent]
  omega

theorem pcInTol_eq (p : Params) (e : Int) : pcInTol p e = decide (e.natAbs < p.tolQ) := by
  rw [pcInTol, absInt_eq]
  norm_cast

/-- R163, in the library's terms. -/
theorem pcBurst_eq (p : Params) (e : Int) :
    pcBurst p e = max 10 (min 1000 (Int.tdiv (e.natAbs * p.ppr) 23592960)) := by
  rw [pcBurst, clamp_eq (by decide), absInt_eq, a2cExact, tdiv_eq_tdiv]
  rfl

/-! ### PC_UPDATE, branch by branch (R167) -/

/-- The state a PC_UPDATE leaves that issues a burst: the poll, then a start toward the target. -/
def nextBurst (s : State) : State :=
  ((s.pgUpdate s.now).pgStart (pcDir s.pcError) (pattern32 (pcBurst s.params s.pcError)) Config.pulseFreqHz
    s.now).respond 0#32

theorem execPcUpdate_of_not_moving {s : State} (h : s.pcState ≠ .moving) :
    execPcUpdate s = .next (s.respond 0#32) := by
  rw [execPcUpdate, if_pos h]

theorem execPcUpdate_of_within {s : State} (hmoving : s.pcState = .moving)
    (hwithin : s.pcError.natAbs < s.params.tolQ) :
    execPcUpdate s = .next ({ (s.pgUpdate s.now).pgStop with pcState := .arrived }.respond 0#32) := by
  have htol : pcInTol s.params s.pcError = true := by rw [pcInTol_eq, decide_eq_true hwithin]
  rcases execPcUpdate_cases s with ⟨hstill, -⟩ | ⟨-, -, e⟩ | ⟨-, hfalse, -⟩ | ⟨-, hfalse, -⟩
  · exact absurd hmoving hstill
  · exact e
  all_goals simp [htol] at hfalse

theorem execPcUpdate_of_outside {s : State} (hmoving : s.pcState = .moving)
    (houtside : s.params.tolQ ≤ s.pcError.natAbs) :
    execPcUpdate s = .next
      (if (s.pgUpdate s.now).pgState = .running then (s.pgUpdate s.now).respond 0#32 else nextBurst s) := by
  have htol : pcInTol s.params s.pcError = false := by
    rw [pcInTol_eq, decide_eq_false (Nat.not_lt.mpr houtside)]
  rcases execPcUpdate_cases s with ⟨hstill, -⟩ | ⟨-, htrue, -⟩ | ⟨-, -, hrun, e⟩ | ⟨-, -, hstopped, e⟩
  · exact absurd hmoving hstill
  · simp [htol] at htrue
  · rw [e, if_pos hrun]
  · rw [e, if_neg hstopped, nextBurst]

/-- R167: a PC_UPDATE writes nothing that the error depends on. -/
theorem execPcUpdate_pcError {s t : State} (h : execPcUpdate s = .next t) : t.pcError = s.pcError := by
  obtain ⟨hqd, htarget, hparams, -⟩ := execPcUpdate_frame h
  exact pcError_congr hqd htarget hparams

/-- R164: a MOVING controller outside tolerance is MOVING after PC_UPDATE, whether it waits or issues a burst. -/
theorem execPcUpdate_moving_of_outside {s t : State} (h : execPcUpdate s = .next t) (hmoving : s.pcState = .moving)
    (houtside : s.params.tolQ ≤ s.pcError.natAbs) : t.pcState = .moving := by
  have hkept : (s.pgUpdate s.now).pcState = .moving := by simp only [pgUpdate_frame, hmoving]
  rw [execPcUpdate_of_outside hmoving houtside] at h
  cases h
  split_ifs
  · exact hkept
  · exact hkept

/-- R164: what PC_UPDATE makes of MOVING. -/
theorem execPcUpdate_pcState {s t : State} (h : execPcUpdate s = .next t) (hmoving : s.pcState = .moving) :
    t.pcState = if s.pcError.natAbs < s.params.tolQ then .arrived else .moving := by
  split_ifs with hwithin
  · rw [execPcUpdate_of_within hmoving hwithin] at h
    cases h; rfl
  · exact execPcUpdate_moving_of_outside h hmoving (Nat.not_lt.mp hwithin)

/-- Settles O36: the branches of PC_UPDATE, with the error and the burst in the library's terms. PC_START at u takes the
time from u, in which the poll kept it. -/
theorem pcUpdateTurnsTheLoop : Obligations.PcUpdateTurnsTheLoop := by
  refine ⟨fun _ _ _ => rfl, fun s => execPcUpdate_of_not_moving, fun s u hmoving hu => ?_⟩
  cases hu
  simp only [← pcError_eq, ← pcBurst_eq]
  refine ⟨natAbs_pcError_le s, pcBurst_range _ _, execPcUpdate_of_within hmoving,
    fun houtside (hrun : (s.pgUpdate s.now).pgState = .running) => ?_,
    fun houtside (hstopped : (s.pgUpdate s.now).pgState ≠ .running) => ?_⟩
  · exact (execPcUpdate_of_outside hmoving houtside).trans (by rw [if_pos hrun])
  · refine (execPcUpdate_of_outside hmoving houtside).trans ?_
    have hnow : ((s.pgUpdate s.now).respond 0#32).now = s.now := by
      simp only [State.now, State.respond_sample, pgUpdate_frame]
    rw [if_neg hstopped, exec, execPgStart, hnow]
    rfl

/-- Settles O40, command by command: PC_UPDATE by its branches, every other command by its one next state. -/
theorem controllerStateMachine : Obligations.ControllerStateMachine := by
  intro i s t h
  cases i
  case pcUpdate =>
    refine ⟨fun hstill => ?_, fun hmoving => ?_⟩
    · have hkept : execPcUpdate s = .next t := h
      rw [execPcUpdate_of_not_moving hstill] at hkept
      cases hkept; rfl
    · rw [← pcError_eq]
      exact execPcUpdate_pcState h hmoving
  case pgUpdate =>
    obtain ⟨-, ⟨hstate, -⟩, -⟩ := execPgUpdate_frame h
    exact hstate
  all_goals cases h; rfl

/-! ### A stalled actuator (R173, R230) -/

/-- Settles O42, by induction on the commands: outside tolerance each of them keeps MOVING, the target, the error and the
decoder, so the next one is outside tolerance too. -/
theorem stalledActuatorIsPolledForever : Obligations.StalledActuatorIsPolledForever := by
  intro s xs
  induction xs generalizing s with
  | nil => exact fun hmoving _ => ⟨s, rfl, hmoving, rfl, rfl, rfl, rfl, rfl⟩
  | cons x xs ih =>
    intro hmoving houtside
    obtain ⟨t, ht⟩ := exec_answers .pcUpdate (s.latch x)
    have herror : t.pcError = s.pcError := execPcUpdate_pcError (s := s.latch x) ht
    obtain ⟨⟨hprev, hraw, hoffset⟩, htarget, hparams, -⟩ := execPcUpdate_frame (s := s.latch x) ht
    obtain ⟨u, hu, hmoving', htarget', herror', hprev', hraw', hoffset'⟩ :=
      ih t (execPcUpdate_moving_of_outside (s := s.latch x) ht hmoving houtside) (by rw [hparams, herror]; exact houtside)
    exact ⟨u, (runCommands_cons (decode_encode .pcUpdate) ht _).trans hu, hmoving', htarget'.trans htarget,
      herror'.trans herror, hprev'.trans hprev, hraw'.trans hraw, hoffset'.trans hoffset⟩

/-! ### Along a direction -/

/-- An angle, a count or a distance as seen in the direction d: its negative in reverse. -/
def toward : Direction → Int → Int
  | .fwd, x => x
  | .rev, x => -x

/-- R162: the controller's direction is the one in which the error is not negative. -/
theorem toward_pcDir (e : Int) : toward (pcDir e) e = e.natAbs := by
  rw [pcDir]
  split_ifs <;> simp only [toward] <;> omega

/-- R162: an error seen as positive in d gives a burst in d. -/
theorem pcDir_of_toward_pos {d : Direction} {e : Int} (h : 0 < toward d e) : pcDir e = d := by
  cases d <;> simp only [toward] at h
  · rw [pcDir, if_pos h]
  · rw [pcDir, if_neg (by omega)]

/-! ### The ideal plant (R174) -/

/-- R174, P1: the count moves one way at a rising edge of one line, the other way at one of the other line. -/
theorem idealPlant_of_rise {s t : State} (d : Direction) (hlow : outLine s d = false) (hhigh : outLine t d = true)
    (hother : outLine t (otherDir d) = false) :
    idealPlant s t = { t with qdRaw := t.qdRaw + BitVec.ofInt 32 (toward d 1) } := by
  cases d <;> simp only [outLine, otherDir] at hlow hhigh hother
  · simp [idealPlant, hlow, hhigh, toward]
  · simp [idealPlant, hlow, hhigh, hother, toward, BitVec.sub_eq_add_neg]

theorem idealPlant_of_low {s t : State} (hfwd : t.outFwd = false) (hrev : t.outRev = false) : idealPlant s t = t := by
  simp [idealPlant, hfwd, hrev]

/-- R174, P1: the plant moves the count and nothing else. -/
theorem idealPlant_frame (s t : State) : ∃ r, idealPlant s t = { t with qdRaw := r } := by
  unfold idealPlant
  split_ifs
  · exact ⟨_, rfl⟩
  · exact ⟨_, rfl⟩
  · exact ⟨t.qdRaw, rfl⟩

theorem idealPlant_pcState (s t : State) : (idealPlant s t).pcState = t.pcState := by
  obtain ⟨r, h⟩ := idealPlant_frame s t
  rw [h]

/-- What every PC_UPDATE keeps, with the plant's answer to it, holds after any ideal run. -/
theorem idealRun_keeps {I : State → Prop}
    (hkeep : ∀ {s t : State} {x : Sample}, I s → execPcUpdate (s.latch x) = .next t → I (idealPlant s t))
    {k : Nat} {s u : State} (run : IdealRun k s u) (h : I s) : I u := by
  induction run with
  | done s => exact h
  | poll x due update rest ih => exact ih (hkeep h update)

/-! ### A target between two count angles (R175) -/

/-- R175's case: MOVING to half a degree, with one count per degree and a tolerance of at most half a degree. -/
structure HalfwayMove (s : State) : Prop where
  moving : s.pcState = .moving
  ppr : s.params.ppr = 360
  target : s.pcTarget = 32768#32
  tolerance : s.params.tolQ ≤ 32768

/-- R101: with one count per degree, an angle is a whole number of degrees, or saturated. -/
theorem c2a_of_ppr_360 {p : Params} (h : p.ppr = 360) (c : Int) :
    c2a p c = max (-2147483648) (min 2147483647 (c * 65536)) := by
  have hproduct : c * 23592960 = c * 65536 * (360 : Nat) := by omega
  rw [c2a_eq, h, hproduct, Int.mul_tdiv_cancel _ (by decide)]

/-- R175: whatever the count is, its angle is at least half a degree away. -/
theorem HalfwayMove.outside {s : State} (h : HalfwayMove s) : s.params.tolQ ≤ s.pcError.natAbs := by
  have htolerance := h.tolerance
  have htarget : (32768#32).toInt = 32768 := by decide
  rw [State.pcError, State.pcCurrent, c2a_of_ppr_360 h.ppr, s32, h.target, htarget]
  omega

theorem HalfwayMove.keep {s t : State} {x : Sample} (h : HalfwayMove s) (update : execPcUpdate (s.latch x) = .next t) :
    HalfwayMove (idealPlant s t) := by
  obtain ⟨-, htarget, hparams, -⟩ := execPcUpdate_frame (s := s.latch x) update
  have hmoving : t.pcState = .moving := execPcUpdate_moving_of_outside (s := s.latch x) update h.moving h.outside
  obtain ⟨r, hplant⟩ := idealPlant_frame s t
  rw [hplant]
  exact
    { moving := hmoving
      ppr := (congrArg Params.ppr hparams).trans h.ppr
      target := htarget.trans h.target
      tolerance := (congrArg Params.tolQ hparams).trans_le h.tolerance }

/-- Settles O45: no count is within tolerance, so every PC_UPDATE keeps the move going. -/
theorem overshootCanRunForever : Obligations.OvershootCanRunForever := by
  intro k s u run hmoving hppr htarget htolerance
  have h := idealRun_keeps HalfwayMove.keep run ⟨hmoving, hppr, htarget, htolerance⟩
  exact ⟨h.moving, h.target⟩

/-! ### Convergence under the ideal plant (R174)

The measure is `gap`, the distance to the target scaled by PPR, so that it is exact: a pulse toward the target lowers it by
K_ANGLE, and it stays within PPR of the scaled error. While the error is outside tolerance the gap is more than one pulse,
and at the start it is at most two pulses more than the E0 counts of the error; so the error is within tolerance after
E0 + 1 pulses. Each pulse takes two commands, also across the end of a burst, since the command that ends one starts the
next. -/

/-- The exact distance from the count to the target, in units of 2^-16 / PPR degree. -/
def State.gap (s : State) : Int := s.pcTarget.toInt * s.params.ppr - s.qdLogical * 23592960

/-- R174: what the convergence rests on, besides the plant: at most K_ANGLE counts per revolution, and a tolerance of more
than one count plus the truncation of c2a. -/
structure Resolvable (p : Params) : Prop where
  ppr_le : p.ppr ≤ 23592960
  tolerance : 23592960 + p.ppr ≤ p.tolQ * p.ppr

/-- P3 without its quotient. -/
theorem resolvable_of_ceil {p : Params} (hppr : p.ppr ≤ 23592960)
    (htol : (23592960 + p.ppr - 1) / p.ppr < p.tolQ) : Resolvable p := by
  have hpos : 0 < p.ppr := by have := ppr_pos p; omega
  have := (Nat.div_lt_iff_lt_mul hpos).mp htol
  exact ⟨hppr, by omega⟩

/-- The current angle is not saturated. -/
abbrev CountFits (s : State) : Prop := s.qdLogical.natAbs * 23592960 < 2147483648 * s.params.ppr

/-- R101: the truncation of c2a changes the scaled error by less than PPR. -/
theorem pcError_near_gap {s : State} (h : CountFits s) :
    s.gap - s.params.ppr < s.pcError * s.params.ppr ∧ s.pcError * s.params.ppr < s.gap + s.params.ppr := by
  have hsplit := Int.tdiv_mul_add_tmod (s.qdLogical * 23592960) s.params.ppr
  have hlo := Int.lt_tmod_of_pos (s.qdLogical * 23592960) (ppr_pos s.params)
  have hhi := Int.tmod_lt_of_pos (s.qdLogical * 23592960) (ppr_pos s.params)
  rw [State.pcError, State.pcCurrent, c2a_of_natAbs_lt h, State.gap, sub_mul]
  constructor <;> linarith

theorem toward_mul (d : Direction) (x y : Int) : toward d (x * y) = toward d x * y := by
  cases d <;> simp only [toward, neg_mul]

/-- `pcError_near_gap` as seen in a direction. -/
theorem toward_pcError_near_gap (d : Direction) {s : State} (h : CountFits s) :
    toward d s.gap - s.params.ppr < toward d s.pcError * s.params.ppr ∧
      toward d s.pcError * s.params.ppr < toward d s.gap + s.params.ppr := by
  obtain ⟨hlo, hhi⟩ := pcError_near_gap h
  rw [← toward_mul]
  cases d <;> simp only [toward] <;> omega

/-- P3: outside tolerance, the gap is more than one pulse. -/
theorem kAngle_lt_gap {d : Direction} {s : State} (hp : Resolvable s.params) (hfits : CountFits s)
    (houtside : s.params.tolQ ≤ toward d s.pcError) : 23592960 < toward d s.gap := by
  have hscaled : (s.params.tolQ : Int) * s.params.ppr ≤ toward d s.pcError * s.params.ppr :=
    mul_le_mul_of_nonneg_right houtside (ppr_pos s.params).le
  have htolerance : (23592960 + s.params.ppr : Int) ≤ s.params.tolQ * s.params.ppr := by exact_mod_cast hp.tolerance
  obtain ⟨-, hhi⟩ := toward_pcError_near_gap d hfits
  linarith

/-- R24, R26: a pulse moves the logical count by one, where it does not wrap. -/
theorem qdLogical_pulse {s t : State} {d : Direction} (hraw : t.qdRaw = s.qdRaw + BitVec.ofInt 32 (toward d 1))
    (hoffset : t.qdOffset = s.qdOffset)
    (hfits : -2147483648 ≤ s.qdLogical + toward d 1 ∧ s.qdLogical + toward d 1 ≤ 2147483647) :
    t.qdLogical = s.qdLogical + toward d 1 := by
  have hreg : t.qdRaw - t.qdOffset = pattern32 (s.qdLogical + toward d 1) := by
    rw [pattern32, BitVec.ofInt_add, ← pattern32, pattern32_qdLogical, hraw, hoffset]
    bv_omega
  rw [qdLogical_eq, hreg]
  exact s32_pattern32 hfits

theorem natAbs_count_lt_iff {c : Int} {p : Nat} : c.natAbs * 23592960 < 2147483648 * p ↔
    -2147483648 * (p : Int) < c * 23592960 ∧ c * 23592960 < 2147483648 * (p : Int) := by
  omega

/-- A count more than a pulse K away from a target x in range stays in range with the pulse: it moves between the two. -/
theorem natAbs_pulse_lt {d : Direction} {c x : Int} {p : Nat} (hc : c.natAbs * 23592960 < 2147483648 * p)
    (hx : -2147483648 * (p : Int) ≤ x ∧ x ≤ 2147483648 * p) (hgap : 23592960 < toward d (x - c * 23592960)) :
    (c + toward d 1).natAbs * 23592960 < 2147483648 * p := by
  rw [natAbs_count_lt_iff] at hc ⊢
  cases d <;> simp only [toward] at hgap ⊢ <;> omega

/-- R36: the target's scaled value is in the range of the scaled angles. -/
theorem scaledTarget_range (s : State) : -2147483648 * (s.params.ppr : Int) ≤ s.pcTarget.toInt * s.params.ppr ∧
    s.pcTarget.toInt * s.params.ppr ≤ 2147483648 * (s.params.ppr : Int) := by
  obtain ⟨hlo, hhi⟩ := s32_range s.pcTarget
  have hpos := (ppr_pos s.params).le
  exact ⟨mul_le_mul_of_nonneg_right hlo hpos, mul_le_mul_of_nonneg_right (hhi.trans (by decide)) hpos⟩

/-- R174: a pulse toward a target outside tolerance lowers the gap by K_ANGLE and does not cross the target, and the angle
still does not saturate. -/
theorem pulse_toward {s t : State} {d : Direction} (hp : Resolvable s.params) (hfits : CountFits s)
    (houtside : s.params.tolQ ≤ toward d s.pcError) (hraw : t.qdRaw = s.qdRaw + BitVec.ofInt 32 (toward d 1))
    (hoffset : t.qdOffset = s.qdOffset) (htarget : t.pcTarget = s.pcTarget) (hparams : t.params = s.params) :
    CountFits t ∧ 0 ≤ toward d t.pcError ∧ toward d t.gap = toward d s.gap - 23592960 := by
  have hgap := kAngle_lt_gap hp hfits houtside
  have hnew := natAbs_pulse_lt hfits (scaledTarget_range s) hgap
  have hppr := hp.ppr_le
  have hcount : t.qdLogical = s.qdLogical + toward d 1 := qdLogical_pulse hraw hoffset (by omega)
  have hfits' : CountFits t := by rw [CountFits, hcount, hparams]; exact hnew
  have hgap' : toward d t.gap = toward d s.gap - 23592960 := by
    cases d <;> simp only [toward, State.gap, hcount, htarget, hparams] <;> ring
  refine ⟨hfits', ?_, hgap'⟩
  obtain ⟨hnear, -⟩ := toward_pcError_near_gap d hfits'
  have hpos : -1 * (t.params.ppr : Int) < toward d t.pcError * t.params.ppr := by linarith
  have := lt_of_mul_lt_mul_right hpos (ppr_pos t.params).le
  omega

/-- A burst in direction d is running, its line and PG_LEVEL at b and the other line low. -/
structure BurstRunning (d : Direction) (b : Bool) (s : State) : Prop where
  running : s.pgState = .running
  dir : s.pgDir = d
  level : s.pgLevel = b
  line : outLine s d = b
  other : outLine s (otherDir d) = false

/-- R163, R167: a burst issued outside tolerance is running, in the direction of the error, with its lines low. -/
theorem burstRunning_nextBurst {d : Direction} {s : State} (h : 0 < toward d s.pcError) :
    BurstRunning d false (nextBurst s) where
  running := burstState_running _ _
  dir := pcDir_of_toward_pos h
  level := rfl
  line := by cases d <;> rfl
  other := by cases d <;> rfl

/-- R167: a due PC_UPDATE outside tolerance inverts the line of the burst, and where that ends the burst it starts
another in the same direction. -/
theorem BurstRunning.update {d : Direction} {b : Bool} {s t : State} (h : BurstRunning d b s)
    (hdue : s.pgInterval.toNat ≤ (s.now - s.pgLastT).toNat) (hmoving : s.pcState = .moving)
    (houtside : s.params.tolQ ≤ s.pcError.natAbs) (hahead : 0 < toward d s.pcError)
    (update : execPcUpdate s = .next t) : BurstRunning d (!b) t := by
  obtain ⟨hrun, rfl, rfl, -, hother⟩ := h
  have hd : PollDue s s.now := ⟨hrun, hdue⟩
  rw [execPcUpdate_of_outside hmoving houtside] at update
  cases update
  split_ifs with hstill
  · obtain ⟨hline, hother'⟩ := pgUpdate_lines hd hother
    exact
      { running := hstill
        dir := by simp only [State.respond_pgDir, pgUpdate_frame]
        level := (pgUpdate_inverts hd).2
        line := hline
        other := hother' }
  · -- only the fall of the line ends a burst
    have hhigh : s.pgLevel = true := by
      by_contra hlow
      exact hstill (pgUpdate_progress_of_low hd (by simpa using hlow)).2
    rw [hhigh]
    exact burstRunning_nextBurst hahead

/-- R174: a move under way in direction d, between two commands; with the line low, the count is the one that the last
command found outside tolerance. -/
structure Approaching (d : Direction) (b : Bool) (s : State) : Prop where
  moving : s.pcState = .moving
  resolvable : Resolvable s.params
  fits : CountFits s
  burst : BurstRunning d b s
  ahead : 0 ≤ toward d s.pcError
  outside : b = false → s.params.tolQ ≤ s.pcError.natAbs

/-- The inputs of the next command are no part of the move. -/
theorem Approaching.latch {d : Direction} {b : Bool} {s : State} (h : Approaching d b s) (x : Sample) :
    Approaching d b (s.latch x) where
  moving := h.moving
  resolvable := h.resolvable
  fits := h.fits
  burst := ⟨h.burst.running, h.burst.dir, h.burst.level, h.burst.line, h.burst.other⟩
  ahead := h.ahead
  outside := h.outside

/-- P3: the tolerance is not 0. -/
theorem Resolvable.tolQ_pos {p : Params} (h : Resolvable p) : 0 < p.tolQ := by
  by_contra h0
  have := h.tolerance
  rw [Nat.eq_zero_of_not_pos h0] at this
  omega

/-- An error outside tolerance that is not negative as seen in d is outside tolerance there, and positive. -/
theorem Resolvable.toward_outside {d : Direction} {p : Params} {e : Int} (h : Resolvable p) (hahead : 0 ≤ toward d e)
    (houtside : p.tolQ ≤ e.natAbs) : p.tolQ ≤ toward d e ∧ 0 < toward d e := by
  have hpos := h.tolQ_pos
  cases d <;> simp only [toward] at hahead ⊢ <;> omega

/-- R26, R174: a PC_UPDATE writes nothing that the distance depends on. -/
theorem execPcUpdate_count {s t : State} (update : execPcUpdate s = .next t) :
    t.qdLogical = s.qdLogical ∧ t.gap = s.gap := by
  obtain ⟨⟨-, hraw, hoffset⟩, htarget, hparams, -⟩ := execPcUpdate_frame update
  have hcount : t.qdLogical = s.qdLogical := by rw [State.qdLogical, State.qdLogical, hraw, hoffset]
  exact ⟨hcount, by rw [State.gap, State.gap, hcount, htarget, hparams]⟩

/-- R174: a PC_UPDATE outside tolerance that leaves the line of a burst low leaves the move under way, and the plant has
no answer to it. -/
theorem approaching_of_low {d : Direction} {s t : State} (update : execPcUpdate s = .next t)
    (hmoving : s.pcState = .moving) (hresolvable : Resolvable s.params) (hfits : CountFits s)
    (houtside : s.params.tolQ ≤ s.pcError.natAbs) (hahead : 0 ≤ toward d s.pcError) (hburst : BurstRunning d false t) :
    Approaching d false (idealPlant s t) ∧ (idealPlant s t).gap = s.gap := by
  obtain ⟨hfwd, hrev⟩ := (low_iff_outLine t d).mp ⟨hburst.line, hburst.other⟩
  obtain ⟨-, -, hparams, -⟩ := execPcUpdate_frame update
  obtain ⟨hcount, hgap⟩ := execPcUpdate_count update
  have herror := execPcUpdate_pcError update
  rw [idealPlant_of_low hfwd hrev]
  refine ⟨?_, hgap⟩
  exact
    { moving := execPcUpdate_moving_of_outside update hmoving houtside
      resolvable := by rwa [hparams]
      fits := by rwa [CountFits, hcount, hparams]
      burst := hburst
      ahead := by rwa [herror]
      outside := fun _ => by rwa [hparams, herror] }

/-- R174: from a low line, a PC_UPDATE makes the rising edge, and the plant answers it by one pulse toward the target. -/
theorem Approaching.rise {d : Direction} {s t : State} (h : Approaching d false s)
    (hdue : s.pgInterval.toNat ≤ (s.now - s.pgLastT).toNat) (update : execPcUpdate s = .next t) :
    Approaching d true (idealPlant s t) ∧ toward d (idealPlant s t).gap = toward d s.gap - 23592960 := by
  have houtside := h.outside rfl
  obtain ⟨hfar, hpos⟩ := h.resolvable.toward_outside h.ahead houtside
  obtain ⟨⟨-, hraw, hoffset⟩, htarget, hparams, -⟩ := execPcUpdate_frame update
  have hmoving := execPcUpdate_moving_of_outside update h.moving houtside
  obtain ⟨hrunning, hdir, hlevel, hline, hother⟩ := h.burst.update hdue h.moving houtside hpos update
  rw [idealPlant_of_rise d h.burst.line hline hother, hraw]
  obtain ⟨hfits, hahead, hgap⟩ := pulse_toward (t := { t with qdRaw := s.qdRaw + BitVec.ofInt 32 (toward d 1) })
    h.resolvable h.fits hfar rfl hoffset htarget hparams
  exact ⟨⟨hmoving, hparams ▸ h.resolvable, hfits, ⟨hrunning, hdir, hlevel, hline, hother⟩, hahead, nofun⟩, hgap⟩

/-- R174: from a high line, a PC_UPDATE arrives, or makes the falling edge with the move still under way. -/
theorem Approaching.fall {d : Direction} {s t : State} (h : Approaching d true s)
    (hdue : s.pgInterval.toNat ≤ (s.now - s.pgLastT).toNat) (update : execPcUpdate s = .next t) :
    (idealPlant s t).pcState = .arrived ∨
      Approaching d false (idealPlant s t) ∧ (idealPlant s t).gap = s.gap := by
  by_cases hwithin : s.pcError.natAbs < s.params.tolQ
  · left
    rw [idealPlant_pcState, execPcUpdate_pcState update h.moving, if_pos hwithin]
  · have houtside := Nat.not_lt.mp hwithin
    obtain ⟨-, hpos⟩ := h.resolvable.toward_outside h.ahead houtside
    exact .inr (approaching_of_low update h.moving h.resolvable h.fits houtside h.ahead
      (h.burst.update hdue h.moving houtside hpos update))

/-- R167, R174: with no burst running, a PC_UPDATE arrives, or opens the move toward the target. -/
theorem approaching_of_start {s t : State} (update : execPcUpdate s = .next t) (hmoving : s.pcState = .moving)
    (hstopped : s.pgState ≠ .running) (hresolvable : Resolvable s.params) (hfits : CountFits s) :
    (idealPlant s t).pcState = .arrived ∨
      Approaching (pcDir s.pcError) false (idealPlant s t) ∧ (idealPlant s t).gap = s.gap := by
  by_cases hwithin : s.pcError.natAbs < s.params.tolQ
  · left
    rw [idealPlant_pcState, execPcUpdate_pcState update hmoving, if_pos hwithin]
  · right
    have houtside := Nat.not_lt.mp hwithin
    have hahead : 0 ≤ toward (pcDir s.pcError) s.pcError := (toward_pcDir _).symm ▸ Int.natCast_nonneg _
    obtain ⟨-, hpos⟩ := hresolvable.toward_outside hahead houtside
    have hstill : s.pgUpdate s.now = s := pgUpdate_of_not_due fun hd => hstopped hd.1
    have hburst := execPcUpdate_of_outside hmoving houtside
    rw [update, hstill, if_neg hstopped] at hburst
    cases hburst
    exact approaching_of_low update hmoving hresolvable hfits houtside hahead (burstRunning_nextBurst hpos)

theorem arrived_keep {s t : State} {x : Sample} (h : s.pcState = .arrived)
    (update : execPcUpdate (s.latch x) = .next t) : (idealPlant s t).pcState = .arrived := by
  have hstill : (s.latch x).pcState ≠ .moving := by simp [h]
  rw [execPcUpdate_of_not_moving hstill] at update
  cases update
  rw [idealPlant_pcState]
  exact h

/-- R164: ARRIVED lasts as long as only PC_UPDATE is issued. -/
theorem idealRun_arrived {k : Nat} {s u : State} (run : IdealRun k s u) (h : s.pcState = .arrived) :
    u.pcState = .arrived :=
  idealRun_keeps (I := fun s => s.pcState = .arrived) arrived_keep run h

/-- R174: a move with a gap of at most m pulses and one more arrives within 2m commands: two commands take a pulse off the
gap, and a gap of one pulse or less is within tolerance. -/
theorem arrived_of_approaching {m k : Nat} {d : Direction} {s u : State} (run : IdealRun k s u)
    (h : Approaching d false s) (hgap : toward d s.gap ≤ (m + 1) * 23592960) (hk : 2 * m ≤ k) : u.pcState = .arrived := by
  induction m generalizing k s with
  | zero =>
    obtain ⟨hfar, -⟩ := h.resolvable.toward_outside h.ahead (h.outside rfl)
    have := kAngle_lt_gap h.resolvable h.fits hfar
    omega
  | succ m ih =>
    obtain ⟨k, rfl⟩ : ∃ j, k = j + 1 + 1 := ⟨k - 2, by omega⟩
    cases run with | poll x due update rest =>
    obtain ⟨hhigh, hpulse⟩ := (h.latch x).rise (due h.burst.running) update
    cases rest with | poll y due update rest =>
    rcases (hhigh.latch y).fall (due hhigh.burst.running) update with harrived | ⟨hlow, hkept⟩
    · exact idealRun_arrived rest harrived
    · refine ih rest hlow (((congrArg (toward d) hkept).trans hpulse).trans_le ?_) (by omega)
      push_cast at hgap
      exact (sub_le_sub_right hgap _).trans_eq (by ring)

/-- R102: the error in counts is not negative, and the gap is less than two counts more. -/
theorem gap_le_counts {s : State} (hresolvable : Resolvable s.params) (hfits : CountFits s) :
    0 ≤ a2cExact s.params s.pcError.natAbs ∧
      toward (pcDir s.pcError) s.gap ≤ (a2cExact s.params s.pcError.natAbs + 2) * 23592960 := by
  have hscaled : (0 : Int) ≤ s.pcError.natAbs * s.params.ppr :=
    mul_nonneg (Int.natCast_nonneg _) (ppr_pos s.params).le
  obtain ⟨hcounts, -, hround⟩ : 0 ≤ a2cExact s.params s.pcError.natAbs ∧ _ ∧
      s.pcError.natAbs * s.params.ppr < (a2cExact s.params s.pcError.natAbs + 1) * 23592960 :=
    tdiv_nonneg hscaled kAngle_pos
  obtain ⟨hnear, -⟩ := toward_pcError_near_gap (pcDir s.pcError) hfits
  have hppr := hresolvable.ppr_le
  rw [toward_pcDir] at hnear
  exact ⟨hcounts, by omega⟩

/-- Settles O44: the first command arrives, or opens a move whose gap is at most E0 + 2 pulses, so that 2 (E0 + 1) more
commands bring it to its end. -/
theorem convergesUnderTheIdealPlant : Obligations.ConvergesUnderTheIdealPlant := by
  intro k s u run hmoving hstopped _ _ hppr hfits htol hk
  have hresolvable := resolvable_of_ceil hppr htol
  obtain ⟨hcounts, hgap⟩ := gap_le_counts hresolvable hfits
  obtain ⟨E, hE⟩ := Int.eq_ofNat_of_zero_le hcounts
  rw [hE] at hk hgap
  obtain ⟨k, rfl⟩ : ∃ j, k = j + 1 := ⟨k - 1, by omega⟩
  cases run with | poll x due update rest =>
  rcases approaching_of_start (s := s.latch x) update hmoving hstopped hresolvable hfits with harrived | ⟨hlow, hkept⟩
  · exact idealRun_arrived rest harrived
  · refine arrived_of_approaching (m := E + 1) rest hlow (((congrArg (toward _) hkept).trans_le hgap).trans_eq ?_)
      (by omega)
    push_cast
    ring

end Sys2Proof.Machine

/-! Proofs about errors and traps (spec/60_exceptions.md): no step faults or is refused, and which steps enter and leave
the ERROR state. -/

namespace Sys2Proof.Machine

open Sys2Proof.Safety

/-! ### No exceptions and no traps (R200, R205) -/

/-- Settles O10: a reset and an illegal opcode answer a next state, and so does every command (`step_answers`). -/
theorem everyStepAnswersANextState : Obligations.EveryStepAnswersANextState :=
  step_answers

/-! ### The ERROR state (R202) -/

/-- R73: a command decodes from its own opcode alone. -/
theorem op_of_decode {w : CommandWord} {i : Instr} (h : decode w = .ok i) : w.op = i.opcode := by
  rw [← canonical_op, canonical_of_decode h, encode_op]

/-- R63: taking an edge and sampling the inputs is no part of the controller. -/
theorem takeEdge_pcState (s : State) : s.takeEdge.2.pcState = s.pcState := by
  obtain ⟨p, n, h⟩ := takeEdge_frame s
  rw [h]

/-- R71, R74, R220: what a step does to the controller, by the edge it takes: a reset clears it, an accepted command of
R73 runs, and an illegal opcode leaves it. -/
theorem step_pcState_cases {s t : State} (h : step s = .next t) :
    (s.takeEdge.1.rst = true ∧ t.pcState = .idle) ∨
    s.takeEdge.1.rst = false ∧
      ((∃ i u, s.takeEdge.1.cmd.op = i.opcode ∧ u.pcState = s.pcState ∧ exec i u = .next t) ∨
        t.pcState = s.pcState) := by
  rw [step, clockEdge] at h
  cases hrst : s.takeEdge.1.rst with
  | true =>
    rw [hrst, if_pos rfl] at h
    cases h
    exact .inl ⟨rfl, rfl⟩
  | false =>
    have hvalid : s.takeEdge.1.cmdValid = true := by simpa [Edge.active, hrst] using takeEdge_active s
    rw [hrst, if_neg Bool.false_ne_true, if_pos hvalid] at h
    refine .inr ⟨rfl, ?_⟩
    by_cases hlegal : ∃ i, decode s.takeEdge.1.cmd = .ok i
    · obtain ⟨i, hi⟩ := hlegal
      rw [runCommand_of_ok hi] at h
      exact .inl ⟨i, s.takeEdge.2.latch s.takeEdge.1.sample, op_of_decode hi, takeEdge_pcState s, h⟩
    · rw [runCommand_of_illegal (not_exists.mp hlegal)] at h
      cases h
      exact .inr (takeEdge_pcState s)

/-- R202: PC_UPDATE does nothing in ERROR but respond. -/
theorem exec_pcUpdate_of_error {s : State} (h : s.pcState = .error) : exec .pcUpdate s = .next (s.respond 0#32) :=
  execPcUpdate_of_not_moving (by simp [h])

/-- R202: of the commands, PC_ESTOP alone enters ERROR. The others that set a state set another one: a PC_UPDATE in
MOVING ends in ARRIVED or MOVING. The rest keep the state. -/
theorem exec_enters_error {i : Instr} {s t : State} (h : exec i s = .next t) (hs : s.pcState ≠ .error)
    (ht : t.pcState = .error) : i = .pcEstop := by
  have hstate := controllerStateMachine i s t h
  cases i
  case pcEstop => rfl
  case pcUpdate =>
    obtain ⟨hstill, hmoving⟩ := hstate
    by_cases hm : s.pcState = .moving
    · have hnext := hmoving hm
      rw [ht] at hnext
      split_ifs at hnext
    · rw [hstill hm] at ht
      exact absurd ht hs
  case pcInit | pcHoming | pcSetTarget => exact absurd (hstate.symm.trans ht) (by decide)
  all_goals exact absurd (hstate.symm.trans ht) hs

/-- R202: of the commands, PC_INIT and PC_HOMING (to IDLE) and PC_SET_TARGET (to MOVING) alone leave ERROR. -/
theorem exec_leaves_error {i : Instr} {s t : State} (h : exec i s = .next t) (hs : s.pcState = .error)
    (ht : t.pcState ≠ .error) :
    (i.opcode ∈ [0x20#8, 0x26#8] ∧ t.pcState = .idle) ∨ (i.opcode = 0x21#8 ∧ t.pcState = .moving) := by
  have hstate := controllerStateMachine i s t h
  cases i
  case pcInit | pcHoming => exact .inl ⟨by simp [Instr.opcode], hstate⟩
  case pcSetTarget => exact .inr ⟨rfl, hstate⟩
  case pcEstop => exact absurd hstate ht
  case pcUpdate =>
    rw [exec_pcUpdate_of_error hs] at h
    cases h
    exact absurd hs ht
  all_goals exact absurd (hstate.trans hs) ht

/-- Settles O41: a step is a reset, a command or an illegal opcode (`step_pcState_cases`), and only a command can enter
ERROR, and only a reset or a command leave it. -/
theorem errorIsEnteredAndLeftOnlyByCommand : Obligations.ErrorIsEnteredAndLeftOnlyByCommand := by
  refine ⟨fun s t h hs ht => ?_, fun s => exec_pcUpdate_of_error, fun s t h hs ht => ?_⟩
  · rcases step_pcState_cases h with ⟨-, hidle⟩ | ⟨hrst, ⟨i, u, hop, hu, hexec⟩ | hkept⟩
    · exact absurd (hidle.symm.trans ht) (by decide)
    · obtain rfl := exec_enters_error hexec (hu ▸ hs) ht
      exact ⟨hrst, hop⟩
    · exact absurd (hkept.symm.trans ht) hs
  · rcases step_pcState_cases h with ⟨hrst, hidle⟩ | ⟨hrst, ⟨i, u, hop, hu, hexec⟩ | hkept⟩
    · exact .inl ⟨.inl hrst, hidle⟩
    · rw [hop]
      rcases exec_leaves_error hexec (hu.trans hs) ht with ⟨hmem, hidle⟩ | ⟨heq, hmoving⟩
      · exact .inl ⟨.inr hmem, hidle⟩
      · exact .inr ⟨hrst, heq, hmoving⟩
    · exact absurd (hkept.trans hs) ht

end Sys2Proof.Machine

/-! Proofs about reset and hazards (spec/70_reset_and_hazards.md): the reset edge, samples taken too late, and direct
generator commands while the controller is MOVING. -/

namespace Sys2Proof.Machine

open Sys2Proof.Safety

/-! ### The reset edge (R220, R221) -/

/-- R220: RST = 1 wins over any command presented at the same edge. -/
theorem clockEdge_of_reset {e : Edge} (hrst : e.rst = true) (s : State) :
    clockEdge e s = .next (s.latch e.sample).resetRegs := by
  rw [clockEdge, if_pos hrst]

/-- Settles O8: the reset edge by `clockEdge_of_reset`; the three inits write disjoint sets of registers, which together
are all of them, so their composition is the same state. -/
theorem resetEdgeWinsAndEqualsTheInits : Obligations.ResetEdgeWinsAndEqualsTheInits := by
  intro s e hrst
  exact ⟨clockEdge_of_reset hrst s, _, rfl, _, rfl, rfl⟩

/-! ### Transitions that no QD_UPDATE sampled (R224) -/

/-- Four successive phase states of one cycle, from each start, with the step that one transition counts: first the
cycle 00, 10, 11, 01 of R51, then its reverse. -/
abbrev directedCycles : List (BitVec 2 × BitVec 2 × BitVec 2 × BitVec 2 × Int) :=
  [(0#2, 2#2, 3#2, 1#2, 1), (2#2, 3#2, 1#2, 0#2, 1), (3#2, 1#2, 0#2, 2#2, 1), (1#2, 0#2, 2#2, 3#2, 1),
   (0#2, 1#2, 3#2, 2#2, -1), (1#2, 3#2, 2#2, 0#2, -1), (3#2, 2#2, 0#2, 1#2, -1), (2#2, 0#2, 1#2, 3#2, -1)]

/-- R51: one transition counts d, two transitions are a double-bit change, and the fourth transition, from the last
phase state back to the first, counts d too. -/
theorem directedCycles_steps : ∀ c ∈ directedCycles,
    lut (c.1 ++ c.2.1) = c.2.2.2.2 ∧ c.2.2.1 = c.1 ^^^ 3#2 ∧ lut (c.2.2.2.1 ++ c.1) = c.2.2.2.2 := by
  decide

/-- Settles O17: the entry added is that of one transition; of a double-bit change, which is 0; of the fourth transition
read backwards, which is its negation (`lut_antisymm`); of no change, which is 0. -/
theorem undersamplingMiscounts : Obligations.UndersamplingMiscounts := by
  intro s p q r u d hcycle hprev
  obtain ⟨hone, htwo, hfour⟩ : lut (p ++ q) = d ∧ r = p ^^^ 3#2 ∧ lut (u ++ p) = d :=
    directedCycles_steps (p, q, r, u, d) hcycle
  have hdouble : lut (p ++ r) = 0 := lut_of_noise (.inr htwo)
  have hback : lut (p ++ u) = -d := by rw [lut_antisymm, hfour]
  have hsame : lut (p ++ p) = 0 := lut_of_noise (.inl rfl)
  have hupdate := exec_qdUpdate s
  rw [hprev] at hupdate
  refine ⟨_, hupdate, fun h => ?_, fun h => ?_, fun h => ?_, fun h => ?_⟩
  · simp [h, hone]
  · simp [h, hdouble]
  · simp [h, hback, BitVec.ofInt_neg, BitVec.sub_eq_add_neg]
  · simp [h, hsame]

/-! ### Direct generator commands while the controller is MOVING (R227) -/

/-- R227: the controller is in MOVING with its error outside tolerance, so a PC_UPDATE drives the generator. -/
structure MovingOutside (s : State) : Prop where
  moving : s.pcState = .moving
  outside : s.params.tolQ ≤ s.pcError.natAbs

/-- R135 to R140: no generator command ends the move, or touches what its error depends on. -/
theorem MovingOutside.exec_generator {i : Instr} {s t : State} (h : MovingOutside s) (hexec : exec i s = .next t)
    (hlo : 0x10 ≤ i.opcode.toNat) (hhi : i.opcode.toNat < 0x20) : MovingOutside t := by
  obtain ⟨hqd, hstate, htarget⟩ := exec_generator_frame hexec hlo hhi
  obtain ⟨hparams, -⟩ := exec_samePorts hexec
  exact ⟨hstate.trans h.moving, by rw [hparams, pcError_congr hqd htarget hparams]; exact h.outside⟩

theorem MovingOutside.latch {s : State} (h : MovingOutside s) (x : Sample) : MovingOutside (s.latch x) :=
  ⟨h.moving, h.outside⟩

/-- R58: a run of two commands is the one after the other. -/
theorem runCommands_pair {i j : Instr} {x y : Sample} {s t u : State} (hi : exec i (s.latch x) = .next t)
    (hj : exec j (t.latch y) = .next u) : runCommands [(i, x), (j, y)] s = .next u := by
  rw [runCommands_cons (decode_encode i) hi, runCommands_cons (decode_encode j) hj, runCommands_nil]

/-- R167: with the generator stopped, a PC_UPDATE of a controller that is driving issues a burst. -/
theorem MovingOutside.pcUpdate_of_stopped {s : State} (h : MovingOutside s) (hstopped : s.pgState ≠ .running) :
    exec .pcUpdate s = .next (nextBurst s) := by
  have hpoll : s.pgUpdate s.now = s := pgUpdate_of_not_due fun hdue => hstopped hdue.1
  exact (execPcUpdate_of_outside h.moving h.outside).trans (by rw [hpoll, if_neg hstopped])

/-- R167: while a burst is RUNNING and its interval is not over, such a PC_UPDATE only responds. -/
theorem MovingOutside.pcUpdate_of_early {s : State} (h : MovingOutside s) (hrun : s.pgState = .running)
    (hearly : (s.now - s.pgLastT).toNat < s.pgInterval.toNat) : exec .pcUpdate s = .next (s.respond 0#32) := by
  have hpoll : s.pgUpdate s.now = s := pgUpdate_of_not_due fun hdue => Nat.not_le.mpr hearly hdue.2
  exact (execPcUpdate_of_outside h.moving h.outside).trans (by rw [hpoll, if_pos hrun])

/-- R227: after a generator command that stops it, the next PC_UPDATE starts a session of its own. -/
theorem MovingOutside.burst_after_stop {i : Instr} {s t : State} {x : Sample} (h : MovingOutside s)
    (hexec : exec i (s.latch x) = .next t) (hlo : 0x10 ≤ i.opcode.toNat) (hhi : i.opcode.toNat < 0x20)
    (hidle : t.pgState = .idle) (y : Sample) :
    Answers (runCommands [(i, x), (.pcUpdate, y)] s) fun u =>
      u.pcState = .moving ∧ u.pgState = .running ∧ u.pgEmitted = 0#32 ∧ u.pgLastT = y.timeUs ∧
      u.outFwd = false ∧ u.outRev = false := by
  have ht : MovingOutside (t.latch y) := ((h.latch x).exec_generator hexec hlo hhi).latch y
  have hburst : exec .pcUpdate (t.latch y) = .next (nextBurst (t.latch y)) :=
    ht.pcUpdate_of_stopped (by simp [hidle])
  exact ⟨_, runCommands_pair hexec hburst, execPcUpdate_moving_of_outside hburst ht.moving ht.outside,
    burstState_running _ _, rfl, rfl, rfl, rfl⟩

/-- R227: a PG_START replaces the burst, and a PC_UPDATE that comes before its first interval is over waits for it. -/
theorem MovingOutside.waits_after_start {s : State} (h : MovingOutside s) {n : Word} (hn : n ≠ 0#32) (d : Direction)
    {f : Word} {x y : Sample} (hearly : since x y < pgIntervalOf f.toNat) :
    runCommands [(.pgStart d n f, x), (.pcUpdate, y)] s =
      .next (((startSession s d n f x).latch y).respond 0#32) := by
  have hstart := exec_pgStart_latch s d n f x
  have ht : MovingOutside (startSession s d n f x) :=
    (h.latch x).exec_generator hstart (by simp [Instr.opcode]) (by simp [Instr.opcode])
  have hinterval : (startSession s d n f x).pgInterval.toNat = pgIntervalOf f.toNat := pgIntervalOf_toNat _
  have hrun : (startSession s d n f x).pgState = .running := if_neg hn
  exact runCommands_pair hstart ((ht.latch y).pcUpdate_of_early hrun (hearly.trans_eq hinterval.symm))

/-- R227: a PG_UPDATE that leaves the burst RUNNING is all that the PC_UPDATE would have done. -/
theorem MovingOutside.pcUpdate_eq_pgUpdate {s u : State} (h : MovingOutside s) (hpoll : exec .pgUpdate s = .next u)
    (hrun : u.pgState = .running) : exec .pcUpdate s = .next u := by
  cases hpoll
  have hrunning : (s.pgUpdate s.now).pgState = .running := hrun
  exact (execPcUpdate_of_outside h.moving h.outside).trans (by rw [if_pos hrunning])

/-- Settles O43, one lemma for each case; after PC_INIT the controller is IDLE, so its PC_UPDATE only responds. -/
theorem twoDriversOfOneGenerator : Obligations.TwoDriversOfOneGenerator := by
  intro s x y d n f hmoving houtside
  have h : MovingOutside s := ⟨hmoving, houtside⟩
  refine ⟨fun i hi => ?_, fun hn hearly => ?_, fun u => (h.latch x).pcUpdate_eq_pgUpdate, ?_⟩
  · obtain rfl | rfl : i = .pgStop ∨ i = .pgInit := by simpa using hi
    · exact h.burst_after_stop (i := .pgStop) rfl (by decide) (by decide) rfl y
    · exact h.burst_after_stop (i := .pgInit) rfl (by decide) (by decide) rfl y
  · exact ⟨_, h.waits_after_start hn d hearly, hmoving, if_neg hn, rfl, rfl⟩
  · have hinit : exec .pcInit (s.latch x) = .next _ := rfl
    exact ⟨_, runCommands_pair hinit (execPcUpdate_of_not_moving (by simp)), samePg_refl s, rfl⟩

end Sys2Proof.Machine
